-- ==== Sys2Proof/Word.lean ====
section
/-!
DEFINITION. The words of the RH850G3K core: bytes, halfwords, words, double-words and register numbers, with their
plainest arithmetic (spec/00_scope.md R9 to R14, spec/20_memory.md R100).
-/
namespace Sys2Proof

/-- A byte, the smallest unit that has an address (spec/20_memory.md R100). -/
abbrev Byte := BitVec 8

/-- A halfword: 16 bits, the unit of the instruction stream (spec/30_encoding.md R160). -/
abbrev Half := BitVec 16

/-- A word: the width of every register and of every address (spec/10_state.md R20). -/
abbrev Word := BitVec 32

/-- A double-word: the widest access (spec/20_memory.md R101). -/
abbrev Dword := BitVec 64

/-- The number of a general register, 0 to 31 (spec/30_encoding.md R162). -/
abbrev Reg := BitVec 5

/-- `v` with bit 0 cleared: the value the program counter takes from `v` (spec/10_state.md R24). -/
def Word.even (v : Word) : Word := v &&& 0xFFFFFFFE#32

/-- The low word of a double-word. -/
def Dword.low (v : Dword) : Word := v.extractLsb' 0 32

/-- The high word of a double-word. -/
def Dword.high (v : Dword) : Word := v.extractLsb' 32 32

end Sys2Proof
end

