-- ==== Sys2Proof/Config.lean ====
section
/-!
DEFINITION. What the manual leaves open: the free values, which are constants without a body, and the product
parameters of spec/00_scope.md R8, which are plain data.
-/
namespace Sys2Proof.Config

/-- The 32-bit values the spec leaves undefined, by the index of the free value (spec/93_implementation_defined.md U2,
U6, U7, U8). Nothing can be proved of them. -/
opaque freeWord : Nat → Word

/-- The flags the spec leaves undefined, by the index of the free value (spec/93_implementation_defined.md U6 to U8). -/
opaque freeBit : Nat → Bool

/-- The bytes read from addresses with nothing behind them (spec/93_implementation_defined.md U18). -/
opaque freeByte : Nat → Byte

/-- Whether the fetch of a halfword this core has stored still sees its old bytes, by the index of the free value
(spec/93_implementation_defined.md U10). -/
opaque fetchOld : Nat → Bool

end Sys2Proof.Config

namespace Sys2Proof

/-- What stands behind a range of addresses (spec/92_eei_decisions.md D11). -/
inductive RegionKind where
  /-- Memory. -/
  | plain
  /-- A device: what an access does is the platform's. -/
  | device
  /-- Nothing. A data access reports the system error 10H + `error`, or nothing where `error` is `none`. -/
  | unbacked (error : Option (BitVec 4))
deriving DecidableEq, Repr

/-- One range of the memory map, both ends included (`MEM_MAP` of spec/00_scope.md R8). -/
structure Region where
  lo : Word
  hi : Word
  kind : RegionKind
  /-- `fetch_error` of its addresses, of whatever kind they are: an instruction fetch there ends in the system error of
  cause code 10H + the value (spec/60_exceptions.md R412). -/
  fetchError : Option (BitVec 4) := none
deriving DecidableEq, Repr

/-- A range in which the hardware does not perform misaligned accesses of `bytes` bytes: where `MISALIGN_HW` of
spec/20_memory.md R104 is false. -/
structure MisalignTrap where
  lo : Word
  hi : Word
  bytes : Nat
deriving DecidableEq, Repr

/-- A pattern that the product gives to a coprocessor: `COPRO_OPCODE` of spec/30_encoding.md R185. The first two
halfwords match where they agree with `value` on the bits of `mask`. -/
structure CoproPattern where
  mask : Word
  value : Word
  /-- The number n of the coprocessor use permission CUn. -/
  cu : Fin 3
deriving DecidableEq, Repr

/-- The parameters a product fixes (spec/00_scope.md R8, spec/92_eei_decisions.md D1 to D11, D18). No step changes
them. -/
structure Product where
  /-- `RBASE_RESET`: bits 31 to 9 of RBASE (spec/10_state.md R62). -/
  rbase : BitVec 23
  /-- `RBASE_RINT_RESET` (R62). -/
  rint : Bool
  /-- `PEID` (R58). -/
  peid : BitVec 3
  /-- Bits 31 to 24 of `PID_VALUE` (R65). -/
  archId : Byte
  /-- Bits 7 to 0 of `PID_VALUE` (R65). -/
  versionId : Byte
  /-- `HAS_MPU`, which is bit 8 of PID (R65, spec/20_memory.md R110). -/
  hasMpu : Bool
  /-- `NUM_MPU_AREAS` - 1: the number of the last protection area (R77). -/
  lastArea : BitVec 4
  /-- `SPID_RESET` (R68). -/
  spidReset : Byte
  /-- `SPID_WIDTH` - 1 (R68). -/
  spidWidth : Fin 8
  /-- `MCTL_MA_WRITABLE` (spec/20_memory.md R104). -/
  maWritable : Bool
  /-- Where `MISALIGN_HW` is false (spec/20_memory.md R104). -/
  misalignTraps : List MisalignTrap
  /-- `MPM_SVP_WRITABLE` (R74). -/
  svpWritable : Bool
  /-- `MPAT_S_WRITABLE` (R81). -/
  mpatSWritable : Bool
  /-- `MPAT_S_RESET`: SX, SW, SR of every area after reset (R81). -/
  mpatSReset : BitVec 3
  /-- `SNOOZE_PERIOD`, in steps (spec/60_exceptions.md R463). -/
  snoozePeriod : Nat
  /-- `SYSERR_CODES`: the system errors the product reports, each as its cause code minus 10H (D9). What raises them is
  `memMap` and the environment. -/
  syserrCodes : List (BitVec 4)
  /-- `NUM_EIINT`: the product has the interrupt channels below it (spec/60_exceptions.md R430). -/
  numEiint : Fin 513
  /-- The channels with `TABLE_METHOD(ch)`: set to the table reference method in the interrupt controller
  (spec/60_exceptions.md R430, R442). -/
  tableChannels : List (BitVec 9)
  /-- `MEM_MAP` with the fetch errors of spec/60_exceptions.md R412; an address in no range is memory. -/
  memMap : List Region
  /-- `COPRO_OPCODE`; a pattern in none of them raises the reserved instruction exception. -/
  copro : List CoproPattern
deriving DecidableEq, Repr

/-- The product that `State.reset` stands for: the instances spec/92_eei_decisions.md suggests (D1, D2, D6, D8, D11,
D18), and where it suggests none the largest machine (D4: sixteen areas; D5: eight bits; D7: writable; D9: every code, which
nothing raises; D10: 512 channels, of which none is set to the table reference method). -/
def Product.default : Product where
  rbase := 0
  rint := false
  peid := 0
  archId := 0
  versionId := 0
  hasMpu := true
  lastArea := 15
  spidReset := 0
  spidWidth := 7
  maWritable := true
  misalignTraps := []
  svpWritable := true
  mpatSWritable := true
  mpatSReset := 0
  snoozePeriod := 0
  syserrCodes := (List.range 16).map (BitVec.ofNat 4)
  numEiint := 512
  tableChannels := []
  memMap := []
  copro := []

end Sys2Proof
end

