-- ==== Sys2Proof/Machine/State.lean ====
section
/-!
DEFINITION. The state of the machine as plain data, the reasons a step can stop, and the state after reset
(spec/10_state.md; the list of every piece of state is INVENTORY.md, "State").
-/
namespace Sys2Proof.Machine

open Sys2Proof

/-- The fields of PSW (spec/10_state.md R44). CU2 to CU0 and the reserved bits are hard-wired to 0 and not stored. -/
structure Psw where
  /-- Bit 30: user mode. -/
  um : Bool
  /-- Bit 15: exception base selection. -/
  ebv : Bool
  /-- Bits 11 to 9. -/
  debug : BitVec 3
  /-- Bit 7: FE level exception in progress. -/
  np : Bool
  /-- Bit 6: an exception other than an interrupt is being handled. -/
  ep : Bool
  /-- Bit 5: EI level maskable exceptions disabled. -/
  id : Bool
  /-- Bit 4: saturation, cumulative (R46). -/
  sat : Bool
  /-- Bit 3: carry or borrow. -/
  cy : Bool
  /-- Bit 2: overflow. -/
  ov : Bool
  /-- Bit 1: sign. -/
  s : Bool
  /-- Bit 0: zero. -/
  z : Bool
deriving DecidableEq, Repr

/-- The system registers that are held as words (spec/10_state.md R31, R40 to R74); PSW and the registers of the
protection areas stand apart, and those that are a function of other state are not stored. -/
structure SysRegs where
  eipc : Word
  eipsw : Word
  fepc : Word
  fepsw : Word
  eiic : Word
  feic : Word
  ctpc : Word
  ctpsw : Word
  ctbp : Word
  eiwr : Word
  fewr : Word
  mcfg0 : Word
  ebase : Word
  intbp : Word
  mctl : Word
  sccfg : Word
  scbp : Word
  mea : Word
  asid : Word
  mei : Word
  ispr : Word
  pmr : Word
  intcfg : Word
  mpm : Word
deriving DecidableEq, Repr

/-- The registers MPLAn, MPUAn and MPATn of one protection area (spec/10_state.md R79 to R81). -/
structure Area where
  mpla : Word
  mpua : Word
  mpat : Word
deriving DecidableEq, Repr

/-- The run state of the core (spec/60_exceptions.md R460). -/
inductive RunState where
  | running
  | halted
  /-- After SNOOZE, with `remaining` steps of the period left. -/
  | snoozing (remaining : Nat)
deriving DecidableEq, Repr

/-- One EIINT request: its channel and its priority, of which 0 is the highest (spec/60_exceptions.md R430). -/
structure EiintRequest where
  channel : BitVec 9
  priority : BitVec 3
deriving DecidableEq, Repr

/-- The requests that stand at the core's inputs (spec/60_exceptions.md R430, R412; spec/70_reset_and_hazards.md
R480). The environment raises and withdraws them; a step only removes what it acknowledges, and adds the system
error of an access to an address with nothing behind it. -/
structure Requests where
  reset : Bool
  fenmi : Bool
  feint : Bool
  /-- A system error of cause code 10H + the value. -/
  syserr : Option (BitVec 4)
  eiint : List EiintRequest
deriving DecidableEq, Repr

/-- Memory: pairs of an address and its byte in one canonical form, addresses rising and no entry equal to what an
unlisted address reads as (`Memory.wf`). -/
abbrev Memory := List Host.Cell

/-- A byte this core has stored and that the instruction fetch may not see yet (spec/20_memory.md R142): where it
lies, what stood there before, and whether it has been read back since. -/
structure StaleByte where
  addr : Word
  old : Byte
  loaded : Bool
deriving DecidableEq, Repr

/-- The state of the machine. -/
structure State where
  /-- The product's parameters; constant. -/
  product : Product
  /-- r0 to r31; the cell of r0 is never read and never written (spec/10_state.md R21). -/
  gpr : Vector Word 32
  /-- The program counter: the address of the instruction being executed (R24). -/
  pc : Word
  psw : Psw
  sys : SysRegs
  /-- The protection areas 0 to 15; those beyond the product's last one are inaccessible. -/
  areas : Vector Area 16
  run : RunState
  req : Requests
  mem : Memory
  /-- The bytes stored and not yet guaranteed to the fetch, the newest first (spec/20_memory.md R142). -/
  stale : List StaleByte
  /-- The MODEL's own field: the index of the next free value. -/
  freeCtr : Nat
  /-- The MODEL's own field: how many end-of-handler reports the core has made (spec/60_exceptions.md R452). -/
  eoi : Nat
deriving DecidableEq, Repr

/-- Why a step stops. -/
inductive Fault where
  /-- An access to a range that the product's memory map gives to a device, whose behaviour the spec leaves to the
  platform (spec/92_eei_decisions.md D11). Raised by every data access and by the instruction fetch. Safe. -/
  | deviceAccess
deriving DecidableEq, Repr

/-- Why an instruction has no meaning. -/
inductive Refusal where
  /-- The instruction has no meaning yet. Raised by its arm of `exec`. Safe. -/
  | notModelled (mnemonic : String)
  /-- LD.DW or ST.DW with an odd reg3 (spec/30_encoding.md R178 (a)). Raised by their meanings. Safe. -/
  | oddRegisterPair
  /-- LDSR in supervisor mode to one of the seven numbers of spec/10_state.md R35. Raised by its meaning. Safe. -/
  | prohibitedSystemRegister
  /-- Bcond disp17 with cccc = 0101 (spec/30_encoding.md R178 (b)). Raised by the fetch. Safe. -/
  | prohibitedBranchAlways17
  /-- LOOP with reg1 = r0 (R178 (c)). Raised by the fetch. Safe. -/
  | prohibitedLoopR0
  /-- DIVH reg1, reg2 with reg1 = r0 and reg2 = r16 to r31 (R178 (d)). Raised by the fetch. Safe. -/
  | prohibitedDivhR0
  /-- JARL [reg1], reg3 with reg3 = r0 (R178 (e)). Raised by the fetch. Safe. -/
  | prohibitedJarlR0
deriving DecidableEq, Repr

/-- PSW after reset: 0x00000020 (spec/10_state.md R44). -/
def Psw.reset : Psw :=
  ⟨false, false, 0, false, false, true, false, false, false, false, false⟩

/-- The system registers after reset (spec/10_state.md R85); those the manual leaves undefined are 0 (DESIGN CHOICE,
notes/assumptions 8 and 9). -/
def SysRegs.reset (p : Product) : SysRegs where
  eipc := 0
  eipsw := 0x00000020
  fepc := 0
  fepsw := 0x00000020
  eiic := 0
  feic := 0
  ctpc := 0
  ctpsw := 0
  ctbp := 0
  eiwr := 0
  fewr := 0
  mcfg0 := (0#8 ++ (p.spidReset &&& (0xFF#8 >>> (7 - p.spidWidth.val))) ++ 0x0004#16 : BitVec 32)
  ebase := 0
  intbp := 0
  mctl := 0x80000000
  sccfg := 0
  scbp := 0
  mea := 0
  asid := 0
  mei := 0
  ispr := 0
  pmr := 0
  intcfg := 0
  mpm := 0

/-- A protection area after reset: disabled, with the product's SX, SW, SR where SVP exists (spec/10_state.md R81);
the other fields 0 (DESIGN CHOICE, notes/assumptions/10.md). -/
def Area.reset (p : Product) : Area where
  mpla := 0
  mpua := 0
  mpat := if p.svpWritable then (0#26 ++ p.mpatSReset ++ 0#3 : BitVec 32) else 0

/-- No request. -/
def Requests.none : Requests := ⟨false, false, false, Option.none, []⟩

/-- The state after reset of a product (spec/10_state.md R85, spec/70_reset_and_hazards.md R480) with memory `m`, which
reset does not touch (R483). The registers the manual leaves undefined are 0 (DESIGN CHOICE, notes/assumptions/7.md). -/
def State.resetOf (p : Product) (m : Memory) : State where
  product := p
  gpr := Vector.replicate 32 0
  pc := (p.rbase ++ 0#9 : BitVec 32)
  psw := Psw.reset
  sys := SysRegs.reset p
  areas := Vector.replicate 16 (Area.reset p)
  run := .running
  req := Requests.none
  mem := m
  stale := []
  freeCtr := 0
  eoi := 0

/-- The machine right after reset, with nothing in memory and the default product. -/
def State.reset : State := State.resetOf Product.default []

end Sys2Proof.Machine
end

