-- ==== Sys2Proof/Machine/Ops.lean ====
section
/-!
DEFINITION. The named operations over registers and memory, taking an exception, and returning from one
(spec/10_state.md, spec/20_memory.md, spec/60_exceptions.md).
-/
namespace Sys2Proof.Machine

open Sys2Proof

/-- What `exec` and `step` answer. -/
abbrev Result := Host.Outcome State Fault Refusal

/-! ### General registers and the program counter -/

/-- The number of the stack pointer (spec/10_state.md R22, R23). -/
def sp : Reg := 3

/-- The number of the element pointer (spec/10_state.md R22, R23). -/
def ep : Reg := 30

/-- Read a general register; r0 reads 0 (spec/10_state.md R21). -/
def State.reg (s : State) (r : Reg) : Word :=
  if r = 0 then 0 else s.gpr[r.toNat]'r.isLt

/-- Write a general register; a write to r0 is discarded (spec/10_state.md R21). -/
def State.setReg (s : State) (r : Reg) (v : Word) : State :=
  if r = 0 then s else { s with gpr := s.gpr.set r.toNat v r.isLt }

/-- Set the program counter; bit 0 is fixed to 0 (spec/10_state.md R24). -/
def State.setPc (s : State) (v : Word) : State := { s with pc := v.even }

/-- Go on with the instruction `n` bytes further, modulo 2^32 (spec/10_state.md R25). -/
def State.advance (s : State) (n : Nat) : State := s.setPc (s.pc + BitVec.ofNat 32 n)

/-- The step's answer of an instruction of `n` bytes that assigned no pc (spec/00_scope.md R14). -/
def State.done (s : State) (n : Nat) : Result := .next (s.advance n)

/-! ### Free values -/

/-- The `k`-th free word of this step (log 14). -/
def State.freeWord (s : State) (k : Nat) : Word := Config.freeWord (s.freeCtr + k)

/-- The `k`-th free flag of this step (log 14). -/
def State.freeBit (s : State) (k : Nat) : Bool := Config.freeBit (s.freeCtr + k)

/-- Count `n` free values as used (log 14). -/
def State.useFree (s : State) (n : Nat) : State := { s with freeCtr := s.freeCtr + n }

/-! ### The program status word -/

/-- PSW as a word; CU2 to CU0 and the reserved bits read 0 (spec/10_state.md R44). -/
def Psw.toWord (p : Psw) : Word :=
  0#1 ++ BitVec.ofBool p.um ++ 0#11 ++ 0#3 ++ BitVec.ofBool p.ebv ++ 0#3 ++ p.debug ++ 0#1 ++ BitVec.ofBool p.np ++
    BitVec.ofBool p.ep ++ BitVec.ofBool p.id ++ BitVec.ofBool p.sat ++ BitVec.ofBool p.cy ++ BitVec.ofBool p.ov ++
    BitVec.ofBool p.s ++ BitVec.ofBool p.z

/-- Take the five flags, bits 4 to 0, from a word (spec/10_state.md R45, R46). -/
def Psw.loadFlags (p : Psw) (w : Word) : Psw :=
  { p with sat := w.getLsbD 4, cy := w.getLsbD 3, ov := w.getLsbD 2, s := w.getLsbD 1, z := w.getLsbD 0 }

/-- Take every field that can be written from a word: all but Debug (spec/10_state.md R45, spec/47_special.md R377). -/
def Psw.loadWord (p : Psw) (w : Word) : Psw :=
  { p.loadFlags w with um := w.getLsbD 30, ebv := w.getLsbD 15, np := w.getLsbD 7, ep := w.getLsbD 6,
                       id := w.getLsbD 5 }

/-- The five flags as a word: what CALLT saves in CTPSW (spec/47_special.md R365). -/
def Psw.flagsWord (p : Psw) : Word :=
  0#27 ++ BitVec.ofBool p.sat ++ BitVec.ofBool p.cy ++ BitVec.ofBool p.ov ++ BitVec.ofBool p.s ++ BitVec.ofBool p.z

/-! ### Memory -/

/-- What an address that nothing is listed for reads as (DESIGN CHOICE: the manual gives no reset contents, log 11). -/
def unlistedByte : Byte := 0

/-- The byte at an address. -/
def Memory.read : Memory → Nat → Byte
  | [], _ => unlistedByte
  | (k, b) :: rest, a => if k = a then b else Memory.read rest a

/-- Insert an entry, keeping addresses rising. -/
def Memory.insert : Memory → Nat → Byte → Memory
  | [], a, b => [(a, b)]
  | (k, c) :: rest, a, b => if a < k then (a, b) :: (k, c) :: rest else (k, c) :: Memory.insert rest a b

/-- Remove what is listed for an address. -/
def Memory.erase (m : Memory) (a : Nat) : Memory := m.filter (fun c => c.1 != a)

/-- Write the byte at an address, in canonical form. -/
def Memory.write (m : Memory) (a : Nat) (b : Byte) : Memory :=
  if b = unlistedByte then m.erase a else (m.erase a).insert a b

/-- The canonical form from an address on: addresses rising, inside the address space of 2^32 bytes
(spec/20_memory.md R103), and no entry equal to what an unlisted address reads as. -/
def Memory.wfFrom : Nat → Memory → Bool
  | _, [] => true
  | lo, (k, b) :: rest => decide (lo ≤ k) && decide (k < 2 ^ 32) && (b != unlistedByte) && Memory.wfFrom (k + 1) rest

/-- Memory is in canonical form. -/
def Memory.wf (m : Memory) : Bool := Memory.wfFrom 0 m

/-- The byte of memory at an address. -/
def State.byteAt (s : State) (a : Word) : Byte := s.mem.read a.toNat

/-- Store one byte. The fetch may not see it yet: it is listed as stale (spec/20_memory.md R142). -/
def State.storeByte (s : State) (a : Word) (b : Byte) : State :=
  { s with mem := s.mem.write a.toNat b, stale := ⟨a, s.byteAt a, false⟩ :: s.stale }

/-- The `n` bytes from `a` on, little-endian (spec/20_memory.md R100), addresses modulo 2^32 (R104). -/
def State.readLE (s : State) (a : Word) : Nat → Dword
  | 0 => 0
  | n + 1 => (s.byteAt a).setWidth 64 ||| (s.readLE (a + 1) n <<< 8)

/-- Store the low `n` bytes of `v` from `a` on, little-endian (spec/20_memory.md R100). -/
def State.writeLE (s : State) (a : Word) (v : Dword) : Nat → State
  | 0 => s
  | n + 1 => (s.storeByte a (v.setWidth 8)).writeLE (a + 1) (v >>> 8) n

/-- `a` is one of the `n` bytes from `base` on, addresses modulo 2^32. -/
def inRange (a base : Word) (n : Nat) : Bool := decide ((a - base).toNat < n)

/-- The stale bytes among the `n` bytes from `a` on have been read back: the dummy read of spec/20_memory.md R142.
Which reads count as one is log 20. -/
def State.markLoaded (s : State) (a : Word) (n : Nat) : State :=
  { s with stale := s.stale.map (fun e => if inRange e.addr a n then { e with loaded := true } else e) }

/-! ### The requests -/

/-- A system error the product reports (`SYSERR_CODES`, spec/60_exceptions.md R412); a code it does not report is
none (log 12). -/
def Product.reported (p : Product) (e : Option (BitVec 4)) : Option (BitVec 4) := e.filter p.syserrCodes.contains

/-- The terminating system error request (spec/60_exceptions.md R412). -/
def State.syserrRequest (s : State) : Option (BitVec 4) := Product.reported s.product s.req.syserr

/-- The EIINT requests of the channels the product has (`NUM_EIINT`, spec/60_exceptions.md R430). -/
def State.eiintRequests (s : State) : List EiintRequest :=
  s.req.eiint.filter (fun r => decide (r.channel.toNat < s.product.numEiint.val))

/-! ### Taking an exception -/

/-- The exceptions of Table 4-1 that this core can take (spec/60_exceptions.md R410); reset stands apart. -/
inductive Exception where
  | fenmi
  /-- A system error of cause code 10H + `code`, terminating or at the fetch. -/
  | syserr (code : BitVec 4)
  | feint
  | eiint (channel : BitVec 9) (priority : BitVec 3)
  | mip
  | rie
  | ucpop (cu : Fin 3)
  | pie
  | mae
  /-- With bits 24 to 16 of the cause (spec/20_memory.md R124). -/
  | mdp (detail : BitVec 9)
  | syscall (vector : BitVec 8)
  | fetrap (vector : BitVec 4)
  | trap (vector : BitVec 5)
deriving DecidableEq, Repr

/-- FE level exceptions (spec/60_exceptions.md R410). -/
def Exception.feLevel : Exception → Bool
  | .eiint _ _ => false
  | .syscall _ => false
  | .trap _ => false
  | _ => true

/-- The cause code (spec/60_exceptions.md R410, spec/20_memory.md R124). -/
def Exception.code : Exception → Word
  | .fenmi => 0xE0
  | .syserr c => 0x10 + c.setWidth 32
  | .feint => 0xF0
  | .eiint ch _ => 0x1000 + ch.setWidth 32
  | .mip => 0x90
  | .rie => 0x60
  | .ucpop cu => 0x80 + BitVec.ofNat 32 cu.val
  | .pie => 0xA0
  | .mae => 0xC0
  | .mdp d => (0#7 ++ d ++ 0x0091#16 : BitVec 32)
  | .syscall v => 0x8000 + v.setWidth 32
  | .fetrap v => 0x30 + v.setWidth 32
  | .trap v => 0x40 + v.setWidth 32

/-- PSW.EP after the acknowledgement: 0 for the interrupts, 1 for every other exception (spec/60_exceptions.md R410,
R420). -/
def Exception.epAfter : Exception → Bool
  | .fenmi => false
  | .feint => false
  | .eiint _ _ => false
  | _ => true

/-- A system error clears PSW.EBV (spec/60_exceptions.md R412). -/
def Exception.clearsEbv : Exception → Bool
  | .syserr _ => true
  | _ => false

/-- The handler's offset of Table 4-3, where the interrupt offset is not reduced by RINT (spec/60_exceptions.md R440).
SYSCALL has none: its handler comes from a table (R441). -/
def Exception.offset : Exception → Word
  | .fenmi => 0x0E0
  | .syserr _ => 0x010
  | .feint => 0x0F0
  | .eiint _ p => 0x100 + 0x10 * p.setWidth 32
  | .mip => 0x090
  | .rie => 0x060
  | .ucpop _ => 0x080
  | .pie => 0x0A0
  | .mae => 0x0C0
  | .mdp _ => 0x090
  | .syscall _ => 0
  | .fetrap _ => 0x030
  | .trap v => if v.getLsbD 4 then 0x050 else 0x040

/-- RBASE: a constant of the product (spec/10_state.md R62). -/
def Product.rbaseWord (p : Product) : Word := p.rbase ++ 0#8 ++ BitVec.ofBool p.rint

/-- The base register the handler address uses, by the new PSW.EBV (spec/60_exceptions.md R440). -/
def State.baseRegister (s : State) (ebv : Bool) : Word := if ebv then s.sys.ebase else Product.rbaseWord s.product

/-- The handler address of the direct vector method (spec/60_exceptions.md R440). -/
def State.handlerAddress (s : State) (x : Exception) : Word :=
  let b := s.baseRegister (s.psw.ebv && !x.clearsEbv)
  let base : Word := b.extractLsb' 9 23 ++ 0#9
  match x with
  | .eiint _ _ => base + (if b.getLsbD 0 then 0x100 else x.offset)
  | _ => base + x.offset

/-- PSW after the acknowledgement (spec/60_exceptions.md R420 step 2). -/
def Psw.acknowledge (p : Psw) (x : Exception) : Psw :=
  { p with um := false, id := true, np := p.np || x.feLevel, ep := x.epAfter, ebv := p.ebv && !x.clearsEbv }

/-- Acknowledge an exception with a given return PC and handler (spec/60_exceptions.md R420): the level's registers
take the return PC, the old PSW and the cause code; then PSW and the program counter change. -/
def State.takeExceptionAt (s : State) (x : Exception) (ret handler : Word) : State :=
  let sys :=
    if x.feLevel then { s.sys with fepc := ret, fepsw := s.psw.toWord, feic := x.code }
    else { s.sys with eipc := ret, eipsw := s.psw.toWord, eiic := x.code }
  { s with sys := sys, psw := s.psw.acknowledge x, run := .running, pc := handler.even }

/-- Acknowledge an exception whose handler the direct vector method gives (spec/60_exceptions.md R420, R440). -/
def State.takeException (s : State) (x : Exception) (ret : Word) : State :=
  s.takeExceptionAt x ret (s.handlerAddress x)

/-- Raise a resumable exception: the return PC is the instruction itself (spec/60_exceptions.md R401). -/
def State.raise (s : State) (x : Exception) : State := s.takeException x s.pc

/-! ### Returning from an exception -/

/-- Clear the lowest bit that is set: the highest priority of ISPR (spec/60_exceptions.md R452). -/
def clearLowestSet (w : Word) : Word := w &&& (w - 1)

/-- The end-of-handler report of a return with PSW.EP = 0 (spec/60_exceptions.md R452): the report, and on EIRET with
INTCFG.ISPC = 0 the ISPR bit of the highest priority. -/
def State.endOfHandler (s : State) (eiLevel : Bool) : State :=
  if s.psw.ep then s
  else
    let s := { s with eoi := s.eoi + 1 }
    if eiLevel && !s.sys.intcfg.getLsbD 0 then { s with sys := { s.sys with ispr := clearLowestSet s.sys.ispr } }
    else s

/-- Return to `pc` with the PSW of the word `psw` (spec/60_exceptions.md R450, spec/47_special.md R377). -/
def State.returnTo (s : State) (pc psw : Word) : State := { s.setPc pc with psw := s.psw.loadWord psw }

/-- Return from an EI level exception (spec/47_special.md R377). -/
def State.returnEi (s : State) : State := (s.endOfHandler true).returnTo s.sys.eipc s.sys.eipsw

/-- Return from an FE level exception (spec/47_special.md R378). -/
def State.returnFe (s : State) : State := (s.endOfHandler false).returnTo s.sys.fepc s.sys.fepsw

end Sys2Proof.Machine
end

