-- ==== Sys2Proof/Machine/Mpu.lean ====
section
/-!
DEFINITION. The memory protection unit: which byte addresses an access may touch (spec/20_memory.md R110 to R117).
-/
namespace Sys2Proof.Machine

open Sys2Proof

/-- The kinds of access the MPU tells apart (spec/20_memory.md R113). -/
inductive AccessKind where
  | execute | write | read
deriving DecidableEq, Repr

/-- MPM.MPE (spec/10_state.md R74). -/
def State.mpe (s : State) : Bool := s.sys.mpm.getLsbD 0

/-- MPM.SVP (spec/10_state.md R74). -/
def State.svp (s : State) : Bool := s.sys.mpm.getLsbD 1

/-- The lower limit of an area: MPLA with bits 1 and 0 taken as 0 (spec/20_memory.md R111). -/
def Area.lo (a : Area) : Word := a.mpla &&& 0xFFFFFFFC#32

/-- The upper limit of an area: MPUA with bits 1 and 0 taken as 1 (spec/20_memory.md R111). -/
def Area.hi (a : Area) : Word := a.mpua ||| 3#32

/-- The area applies to byte address `a` (spec/20_memory.md R112): enabled, valid (R115), containing `a`, and of the
address space ID `asid` unless it is global. -/
def Area.applies (m : Area) (asid : BitVec 10) (a : Word) : Bool :=
  m.mpat.getLsbD 7 && decide (m.lo ≤ m.hi) && decide (m.lo ≤ a) && decide (a ≤ m.hi) &&
    (m.mpat.getLsbD 6 || m.mpat.extractLsb' 16 10 == asid)

/-- The permission bit of an area for a kind and a mode (spec/20_memory.md R113). -/
def Area.permits (m : Area) (um : Bool) (k : AccessKind) : Bool :=
  match k, um with
  | .execute, true => m.mpat.getLsbD 2
  | .write, true => m.mpat.getLsbD 1
  | .read, true => m.mpat.getLsbD 0
  | .execute, false => m.mpat.getLsbD 5
  | .write, false => m.mpat.getLsbD 4
  | .read, false => m.mpat.getLsbD 3

/-- The default of an address in no area: DX, DW or DR of MPM (spec/20_memory.md R114). -/
def State.mpuDefault (s : State) (k : AccessKind) : Bool :=
  match k with
  | .execute => s.sys.mpm.getLsbD 10
  | .write => s.sys.mpm.getLsbD 9
  | .read => s.sys.mpm.getLsbD 8

/-- The areas the product has (spec/20_memory.md R110). -/
def State.areasInUse (s : State) : List Area := s.areas.toList.take (s.product.lastArea.toNat + 1)

/-- The decision for one byte address, a kind and a mode: `mpu_allows` of spec/20_memory.md R114. -/
def State.mpuAllows (s : State) (um : Bool) (k : AccessKind) (a : Word) : Bool :=
  if !s.product.hasMpu || !s.mpe then true
  else if !um && !s.svp then true
  else
    let m := s.areasInUse.filter (fun r => r.applies (s.sys.asid.extractLsb' 0 10) a)
    if m.isEmpty then s.mpuDefault k else m.any (fun r => r.permits um k)

/-- Every one of the `n` bytes from `a` on may be accessed (spec/20_memory.md R117). -/
def State.mpuAllowsAll (s : State) (um : Bool) (k : AccessKind) (a : Word) : Nat → Bool
  | 0 => true
  | n + 1 => s.mpuAllows um k a && s.mpuAllowsAll um k (a + 1) n

end Sys2Proof.Machine
end

