-- ==== Sys2Proof/Machine/Access.lean ====
section
/-!
DEFINITION. Data accesses: the alignment check, the protection check, and the access itself (spec/20_memory.md R104,
R106, R120 to R124; spec/10_state.md R60, R61; the memory map of spec/92_eei_decisions.md D11).
-/
namespace Sys2Proof.Machine

open Sys2Proof

/-- What MEI and the cause code say of the instruction that makes an access (spec/10_state.md R61,
spec/20_memory.md R124). -/
structure AccessTag where
  /-- MEI.REG. -/
  reg : Reg
  /-- MEI.DS: 0 byte, 1 halfword, 2 word, 3 double-word. -/
  ds : BitVec 2
  /-- MEI.U. -/
  unsigned : Bool
  /-- MEI.ITYPE. -/
  itype : BitVec 5
  /-- MEI.RW. -/
  write : Bool
  /-- FEIC.BL: a block transfer. -/
  block : Bool := false
  /-- FEIC.RMW: a read-modify-write operation. -/
  rmw : Bool := false
deriving DecidableEq, Repr

/-- The value of MEI (spec/10_state.md R60, R61). -/
def AccessTag.mei (t : AccessTag) : Word :=
  0#11 ++ t.reg ++ 0#5 ++ t.ds ++ BitVec.ofBool t.unsigned ++ 0#2 ++ t.itype ++ BitVec.ofBool t.write

/-- What an access comes to. -/
inductive Access (α : Type) where
  /-- The access was made. -/
  | done (v : α) (s : State)
  /-- An exception was taken: `s` is the state after it. -/
  | raised (s : State)
  /-- The machine stops. -/
  | stopped (f : Fault)

/-- Go on after an access that was made. -/
def Access.bind {α β : Type} (x : Access α) (f : α → State → Access β) : Access β :=
  match x with
  | .done v s => f v s
  | .raised s => .raised s
  | .stopped r => .stopped r

/-- The step's answer after an access that was made; an exception taken is the next state. -/
def Access.andThen {α : Type} (x : Access α) (f : α → State → Result) : Result :=
  match x with
  | .done v s => f v s
  | .raised s => .next s
  | .stopped r => .fault r

/-- The access of `n` bytes at `a` is misaligned (spec/20_memory.md R104). -/
def misaligned (a : Word) (n : Nat) : Bool :=
  match n with
  | 2 => a.getLsbD 0
  | 4 => a.extractLsb' 0 2 != 0
  | 8 => a.extractLsb' 0 2 != 0
  | _ => false

/-- `MISALIGN_HW`: the hardware performs a misaligned access of `n` bytes at `a` (spec/20_memory.md R104). -/
def Product.misalignHw (p : Product) (a : Word) (n : Nat) : Bool :=
  !p.misalignTraps.any (fun t => t.bytes == n && decide (t.lo ≤ a) && decide (a ≤ t.hi))

/-- The access raises the misaligned access exception (spec/20_memory.md R104): always with MCTL.MA = 0, and with
MCTL.MA = 1 for a double-word or where the hardware does not perform it. -/
def State.maeApplies (s : State) (a : Word) (n : Nat) : Bool :=
  misaligned a n && (!s.sys.mctl.getLsbD 1 || n == 8 || !Product.misalignHw s.product a n)

/-- Raise MAE for the access at `a` (spec/20_memory.md R106). -/
def State.raiseMae (s : State) (t : AccessTag) (a : Word) : State :=
  { s with sys := { s.sys with mea := a, mei := t.mei } }.raise .mae

/-- Bits 24 to 16 of FEIC for MDP (spec/20_memory.md R124): a misaligned access, a block transfer, a read-modify-write
operation, and the violated permissions in the mode the check was made in. -/
def mdpDetail (t : AccessTag) (um ms r w : Bool) : BitVec 9 :=
  BitVec.ofBool ms ++ BitVec.ofBool t.block ++ BitVec.ofBool t.rmw ++ 0#1 ++ BitVec.ofBool (w && !um) ++
    BitVec.ofBool (r && !um) ++ 0#1 ++ BitVec.ofBool (w && um) ++ BitVec.ofBool (r && um)

/-- Raise MDP for the access of `n` bytes at `a`, with `r` a refused read and `w` a refused write (spec/20_memory.md
R123, R124). -/
def State.raiseMdp (s : State) (t : AccessTag) (um : Bool) (a : Word) (n : Nat) (r w : Bool) : State :=
  { s with sys := { s.sys with mea := a, mei := t.mei } }.raise (.mdp (mdpDetail t um (misaligned a n) r w))

/-- The checks of an access of `n` bytes at `a` in mode `um`, which reads where `rd` and writes where `wr`: alignment
first, then protection of every kind (spec/20_memory.md R120, R122). `none` where it may be made, else the state after
the exception. -/
def State.checkAccess (s : State) (t : AccessTag) (um rd wr : Bool) (a : Word) (n : Nat) : Option State :=
  if s.maeApplies a n then some (s.raiseMae t a)
  else
    let r := rd && !s.mpuAllowsAll um .read a n
    let w := wr && !s.mpuAllowsAll um .write a n
    if r || w then some (s.raiseMdp t um a n r w) else none

/-! ### What stands behind an address -/

/-- The first range of the memory map that holds `a`. -/
def Product.regionAt (p : Product) (a : Word) : Option Region :=
  p.memMap.find? (fun r => decide (r.lo ≤ a) && decide (a ≤ r.hi))

/-- The kind of an address of this product: memory where no range holds it. -/
def State.kindAt (s : State) (a : Word) : RegionKind :=
  match Product.regionAt s.product a with
  | some r => r.kind
  | none => .plain


/-- Every one of the `n` bytes from `a` on is memory. -/
def State.plainAll (s : State) (a : Word) : Nat → Bool
  | 0 => true
  | n + 1 => s.kindAt a == .plain && s.plainAll (a + 1) n

/-- One of the `n` bytes from `a` on belongs to a device. -/
def State.deviceAny (s : State) (a : Word) : Nat → Bool
  | 0 => false
  | n + 1 => s.kindAt a == .device || s.deviceAny (a + 1) n

/-- The system error of a data access to the byte at `a`: where nothing is behind it, what its range says. -/
def State.byteError (s : State) (a : Word) : Option (BitVec 4) :=
  match s.kindAt a with
  | .unbacked e => Product.reported s.product e
  | _ => none

/-- The system error that a data access to the `n` bytes from `a` on reports: the first byte's that has one (log 12). -/
def State.accessError (s : State) (a : Word) : Nat → Option (BitVec 4)
  | 0 => none
  | n + 1 => s.byteError a <|> s.accessError (a + 1) n

/-- `fetch_error(a)` (spec/60_exceptions.md R412): what the range of `a` says, of whatever kind it is. -/
def State.byteFetchError (s : State) (a : Word) : Option (BitVec 4) :=
  Product.reported s.product ((Product.regionAt s.product a).bind Region.fetchError)

/-- The system error of the fetch of the `n` bytes from `a` on: the first byte's that has one (log 12). -/
def State.fetchError (s : State) (a : Word) : Nat → Option (BitVec 4)
  | 0 => none
  | n + 1 => s.byteFetchError a <|> s.fetchError (a + 1) n

/-- A system error of a data access is reported at the core's input (spec/60_exceptions.md R412), and the instruction
goes on. Where several accesses of one instruction (PREPARE, DISPOSE, PUSHSP, POPSP, or the read and the write of SET1,
CLR1, NOT1 and CAXI) report different codes, the new one overwrites the pending one: the LAST stays. The spec is silent
on it (DESIGN CHOICE, log 50). -/
def State.reportError (s : State) (e : Option (BitVec 4)) : State :=
  match e with
  | some c => { s with req := { s.req with syserr := some c } }
  | none => s

/-- The `n` bytes from `a` on where some are not memory: those read as free values (log 44). -/
def State.readMixed (s : State) (a : Word) (k : Nat) : Nat → Dword
  | 0 => 0
  | n + 1 =>
    let b := if s.kindAt a == .plain then s.byteAt a else Config.freeByte (s.freeCtr + k)
    b.setWidth 64 ||| (s.readMixed (a + 1) (k + 1) n <<< 8)

/-- Store the low `n` bytes of `v` where some addresses are not memory: a write to those is ignored (log 44). -/
def State.writeMixed (s : State) (a : Word) (v : Dword) : Nat → State
  | 0 => s
  | n + 1 =>
    let s := if s.kindAt a == .plain then s.storeByte a (v.setWidth 8) else s
    s.writeMixed (a + 1) (v >>> 8) n

/-- Read `n` bytes at `a`, the checks having been made. Every such read counts as the dummy read of spec/20_memory.md
R142: a load's, a table read's (SWITCH, CALLT, SYSCALL, the interrupt handler table), a block transfer's, and the read
half of SET1, CLR1, NOT1 and CAXI; the spec names none of them (DESIGN CHOICE, log 20). -/
def State.accessRead (s : State) (a : Word) (n : Nat) : Access Dword :=
  if s.plainAll a n then .done (s.readLE a n) (s.markLoaded a n)
  else if s.deviceAny a n then .stopped .deviceAccess
  else .done (s.readMixed a 0 n) (((s.markLoaded a n).useFree n).reportError (s.accessError a n))

/-- Write the low `n` bytes of `v` at `a`, the checks having been made. -/
def State.accessWrite (s : State) (a : Word) (n : Nat) (v : Dword) : Access Unit :=
  if s.plainAll a n then .done () (s.writeLE a v n)
  else if s.deviceAny a n then .stopped .deviceAccess
  else .done () ((s.writeMixed a v n).reportError (s.accessError a n))

/-! ### `MemRead` and `MemWrite` (spec/20_memory.md R120) -/

/-- `MemRead` in mode `um`. -/
def State.memRead (s : State) (t : AccessTag) (um : Bool) (a : Word) (n : Nat) : Access Dword :=
  match s.checkAccess t um true false a n with
  | some s' => .raised s'
  | none => s.accessRead a n

/-- `MemWrite` in the current mode. -/
def State.memWrite (s : State) (t : AccessTag) (a : Word) (n : Nat) (v : Dword) : Access Unit :=
  match s.checkAccess t s.psw.um false true a n with
  | some s' => .raised s'
  | none => s.accessWrite a n v

/-- Read `n` bytes and write back what `f` makes of them, both kinds checked before the read (spec/20_memory.md R122);
the value read is the answer. -/
def State.memModify (s : State) (t : AccessTag) (a : Word) (n : Nat) (f : Dword → Dword) : Access Dword :=
  match s.checkAccess t s.psw.um true true a n with
  | some s' => .raised s'
  | none =>
    (s.accessRead a n).bind fun v s =>
    (s.accessWrite a n (f v)).bind fun _ s => .done v s

end Sys2Proof.Machine
end

