-- ==== Sys2Proof/Syntax.lean ====
section
/-!
DEFINITION. The instructions: one constructor for each of the 155 rows of spec/opcode_table.json, in the table's order,
with the operand fields as the encoding holds them. A displacement whose lowest bits the encoding does not hold
(spec/30_encoding.md R165) keeps the field's own width; the meaning puts the missing zeros back.
-/
namespace Sys2Proof

/-- The sixteen condition codes of spec/30_encoding.md R172, by the names of its table. -/
inductive Cond where
  | v | c | z | nh | s | t | lt | le | nv | nc | nz | h | ns | sa | ge | gt
deriving DecidableEq, Repr

/-- The 4-bit code `cccc` of a condition (spec/30_encoding.md R172). -/
def Cond.toBits : Cond → BitVec 4
  | .v => 0b0000#4
  | .c => 0b0001#4
  | .z => 0b0010#4
  | .nh => 0b0011#4
  | .s => 0b0100#4
  | .t => 0b0101#4
  | .lt => 0b0110#4
  | .le => 0b0111#4
  | .nv => 0b1000#4
  | .nc => 0b1001#4
  | .nz => 0b1010#4
  | .h => 0b1011#4
  | .ns => 0b1100#4
  | .sa => 0b1101#4
  | .ge => 0b1110#4
  | .gt => 0b1111#4

/-- The instructions of the core, one constructor per row of spec/opcode_table.json. `reg1`, `reg2` and `reg3` are the
register fields of spec/30_encoding.md R162; `list12` holds instruction bits 31 to 21 above instruction bit 0. -/
inductive Instr where
  /-- LD.B disp16[reg1], reg2 (R201). -/
  | ldB16 (disp16 : BitVec 16) (reg1 reg2 : Reg)
  /-- LD.B disp23[reg1], reg3 (R201). -/
  | ldB23 (disp23 : BitVec 23) (reg1 reg3 : Reg)
  /-- LD.BU disp16[reg1], reg2 (R202); bit 0 of the displacement is instruction bit 5. -/
  | ldBu16 (disp16 : BitVec 16) (reg1 reg2 : Reg)
  /-- LD.BU disp23[reg1], reg3 (R202). -/
  | ldBu23 (disp23 : BitVec 23) (reg1 reg3 : Reg)
  /-- LD.DW disp23[reg1], reg3 (R203). -/
  | ldDw (disp : BitVec 22) (reg1 reg3 : Reg)
  /-- LD.H disp16[reg1], reg2 (R204). -/
  | ldH16 (disp : BitVec 15) (reg1 reg2 : Reg)
  /-- LD.H disp23[reg1], reg3 (R204). -/
  | ldH23 (disp : BitVec 22) (reg1 reg3 : Reg)
  /-- LD.HU disp16[reg1], reg2 (R205). -/
  | ldHu16 (disp : BitVec 15) (reg1 reg2 : Reg)
  /-- LD.HU disp23[reg1], reg3 (R205). -/
  | ldHu23 (disp : BitVec 22) (reg1 reg3 : Reg)
  /-- LD.W disp16[reg1], reg2 (R206). -/
  | ldW16 (disp : BitVec 15) (reg1 reg2 : Reg)
  /-- LD.W disp23[reg1], reg3 (R206). -/
  | ldW23 (disp : BitVec 22) (reg1 reg3 : Reg)
  /-- SLD.B disp7[ep], reg2 (R207). -/
  | sldB (disp : BitVec 7) (reg2 : Reg)
  /-- SLD.BU disp4[ep], reg2 (R208). -/
  | sldBu (disp : BitVec 4) (reg2 : Reg)
  /-- SLD.H disp8[ep], reg2 (R209). -/
  | sldH (disp : BitVec 7) (reg2 : Reg)
  /-- SLD.HU disp5[ep], reg2 (R210). -/
  | sldHu (disp : BitVec 4) (reg2 : Reg)
  /-- SLD.W disp8[ep], reg2 (R211). -/
  | sldW (disp : BitVec 6) (reg2 : Reg)
  /-- ST.B reg2, disp16[reg1] (R212). -/
  | stB16 (disp16 : BitVec 16) (reg1 reg2 : Reg)
  /-- ST.B reg3, disp23[reg1] (R212). -/
  | stB23 (disp23 : BitVec 23) (reg1 reg3 : Reg)
  /-- ST.DW reg3, disp23[reg1] (R213). -/
  | stDw (disp : BitVec 22) (reg1 reg3 : Reg)
  /-- ST.H reg2, disp16[reg1] (R214). -/
  | stH16 (disp : BitVec 15) (reg1 reg2 : Reg)
  /-- ST.H reg3, disp23[reg1] (R214). -/
  | stH23 (disp : BitVec 22) (reg1 reg3 : Reg)
  /-- ST.W reg2, disp16[reg1] (R215). -/
  | stW16 (disp : BitVec 15) (reg1 reg2 : Reg)
  /-- ST.W reg3, disp23[reg1] (R215). -/
  | stW23 (disp : BitVec 22) (reg1 reg3 : Reg)
  /-- SST.B reg2, disp7[ep] (R216). -/
  | sstB (disp : BitVec 7) (reg2 : Reg)
  /-- SST.H reg2, disp8[ep] (R217). -/
  | sstH (disp : BitVec 7) (reg2 : Reg)
  /-- SST.W reg2, disp8[ep] (R218). -/
  | sstW (disp : BitVec 6) (reg2 : Reg)
  /-- MUL reg1, reg2, reg3 (R251). -/
  | mul (reg1 reg2 reg3 : Reg)
  /-- MUL imm9, reg2, reg3 (R251). -/
  | mulImm (imm9 : BitVec 9) (reg2 reg3 : Reg)
  /-- MULH reg1, reg2 (R252). -/
  | mulh (reg1 reg2 : Reg)
  /-- MULH imm5, reg2 (R252). -/
  | mulhImm (imm5 : BitVec 5) (reg2 : Reg)
  /-- MULHI imm16, reg1, reg2 (R253). -/
  | mulhi (imm16 : BitVec 16) (reg1 reg2 : Reg)
  /-- MULU reg1, reg2, reg3 (R254). -/
  | mulu (reg1 reg2 reg3 : Reg)
  /-- MULU imm9, reg2, reg3 (R254). -/
  | muluImm (imm9 : BitVec 9) (reg2 reg3 : Reg)
  /-- MAC reg1, reg2, reg3, reg4 (R255); reg3 and reg4 hold bits 4 to 1 of an even register number. -/
  | mac (reg1 reg2 : Reg) (reg3 reg4 : BitVec 4)
  /-- MACU reg1, reg2, reg3, reg4 (R256). -/
  | macu (reg1 reg2 : Reg) (reg3 reg4 : BitVec 4)
  /-- ADD reg1, reg2 (R243). -/
  | addReg (reg1 reg2 : Reg)
  /-- ADD imm5, reg2 (R243). -/
  | addImm (imm5 : BitVec 5) (reg2 : Reg)
  /-- ADDI imm16, reg1, reg2 (R244). -/
  | addi (imm16 : BitVec 16) (reg1 reg2 : Reg)
  /-- CMP reg1, reg2 (R245). -/
  | cmpReg (reg1 reg2 : Reg)
  /-- CMP imm5, reg2 (R245). -/
  | cmpImm (imm5 : BitVec 5) (reg2 : Reg)
  /-- MOV reg1, reg2 (R246). -/
  | movReg (reg1 reg2 : Reg)
  /-- MOV imm5, reg2 (R246). -/
  | movImm5 (imm5 : BitVec 5) (reg2 : Reg)
  /-- MOV imm32, reg1 (R246). -/
  | movImm32 (imm32 : BitVec 32) (reg1 : Reg)
  /-- MOVEA imm16, reg1, reg2 (R247). -/
  | movea (imm16 : BitVec 16) (reg1 reg2 : Reg)
  /-- MOVHI imm16, reg1, reg2 (R248). -/
  | movhi (imm16 : BitVec 16) (reg1 reg2 : Reg)
  /-- SUB reg1, reg2 (R249). -/
  | sub (reg1 reg2 : Reg)
  /-- SUBR reg1, reg2 (R250). -/
  | subr (reg1 reg2 : Reg)
  /-- ADF cccc, reg1, reg2, reg3 (R257). -/
  | adf (cond : Cond) (reg1 reg2 reg3 : Reg)
  /-- SBF cccc, reg1, reg2, reg3 (R258). -/
  | sbf (cond : Cond) (reg1 reg2 reg3 : Reg)
  /-- SATADD reg1, reg2 (R281). -/
  | satadd (reg1 reg2 : Reg)
  /-- SATADD imm5, reg2 (R281). -/
  | sataddImm (imm5 : BitVec 5) (reg2 : Reg)
  /-- SATADD reg1, reg2, reg3 (R281). -/
  | satadd3 (reg1 reg2 reg3 : Reg)
  /-- SATSUB reg1, reg2 (R282). -/
  | satsub (reg1 reg2 : Reg)
  /-- SATSUB reg1, reg2, reg3 (R282). -/
  | satsub3 (reg1 reg2 reg3 : Reg)
  /-- SATSUBI imm16, reg1, reg2 (R283). -/
  | satsubi (imm16 : BitVec 16) (reg1 reg2 : Reg)
  /-- SATSUBR reg1, reg2 (R284). -/
  | satsubr (reg1 reg2 : Reg)
  /-- AND reg1, reg2 (R286). -/
  | andReg (reg1 reg2 : Reg)
  /-- ANDI imm16, reg1, reg2 (R287). -/
  | andi (imm16 : BitVec 16) (reg1 reg2 : Reg)
  /-- NOT reg1, reg2 (R288). -/
  | notReg (reg1 reg2 : Reg)
  /-- OR reg1, reg2 (R289). -/
  | orReg (reg1 reg2 : Reg)
  /-- ORI imm16, reg1, reg2 (R290). -/
  | ori (imm16 : BitVec 16) (reg1 reg2 : Reg)
  /-- TST reg1, reg2 (R291). -/
  | tst (reg1 reg2 : Reg)
  /-- XOR reg1, reg2 (R292). -/
  | xorReg (reg1 reg2 : Reg)
  /-- XORI imm16, reg1, reg2 (R293). -/
  | xori (imm16 : BitVec 16) (reg1 reg2 : Reg)
  /-- BINS with msb >= 16 and lsb >= 16 (R301); msb and lsb hold the low four bits of the bit numbers. -/
  | binsHh (reg1 : Reg) (msb lsb : BitVec 4) (reg2 : Reg)
  /-- BINS with msb >= 16 and lsb < 16 (R301). -/
  | binsHl (reg1 : Reg) (msb lsb : BitVec 4) (reg2 : Reg)
  /-- BINS with msb < 16 and lsb < 16 (R301). -/
  | binsLl (reg1 : Reg) (msb lsb : BitVec 4) (reg2 : Reg)
  /-- BSH reg2, reg3 (R302). -/
  | bsh (reg2 reg3 : Reg)
  /-- BSW reg2, reg3 (R303). -/
  | bsw (reg2 reg3 : Reg)
  /-- CMOV cccc, reg1, reg2, reg3 (R304). -/
  | cmov (cond : Cond) (reg1 reg2 reg3 : Reg)
  /-- CMOV cccc, imm5, reg2, reg3 (R304). -/
  | cmovImm (cond : Cond) (imm5 : BitVec 5) (reg2 reg3 : Reg)
  /-- HSH reg2, reg3 (R305). -/
  | hsh (reg2 reg3 : Reg)
  /-- HSW reg2, reg3 (R306). -/
  | hsw (reg2 reg3 : Reg)
  /-- ROTL imm5, reg2, reg3 (R307). -/
  | rotlImm (imm5 : BitVec 5) (reg2 reg3 : Reg)
  /-- ROTL reg1, reg2, reg3 (R307). -/
  | rotl (reg1 reg2 reg3 : Reg)
  /-- SAR reg1, reg2 (R308). -/
  | sar (reg1 reg2 : Reg)
  /-- SAR imm5, reg2 (R308). -/
  | sarImm (imm5 : BitVec 5) (reg2 : Reg)
  /-- SAR reg1, reg2, reg3 (R308). -/
  | sar3 (reg1 reg2 reg3 : Reg)
  /-- SASF cccc, reg2 (R309). -/
  | sasf (cond : Cond) (reg2 : Reg)
  /-- SETF cccc, reg2 (R310). -/
  | setf (cond : Cond) (reg2 : Reg)
  /-- SHL reg1, reg2 (R311). -/
  | shl (reg1 reg2 : Reg)
  /-- SHL imm5, reg2 (R311). -/
  | shlImm (imm5 : BitVec 5) (reg2 : Reg)
  /-- SHL reg1, reg2, reg3 (R311). -/
  | shl3 (reg1 reg2 reg3 : Reg)
  /-- SHR reg1, reg2 (R312). -/
  | shr (reg1 reg2 : Reg)
  /-- SHR imm5, reg2 (R312). -/
  | shrImm (imm5 : BitVec 5) (reg2 : Reg)
  /-- SHR reg1, reg2, reg3 (R312). -/
  | shr3 (reg1 reg2 reg3 : Reg)
  /-- SXB reg1 (R313). -/
  | sxb (reg1 : Reg)
  /-- SXH reg1 (R314). -/
  | sxh (reg1 : Reg)
  /-- ZXB reg1 (R315). -/
  | zxb (reg1 : Reg)
  /-- ZXH reg1 (R316). -/
  | zxh (reg1 : Reg)
  /-- SCH0L reg2, reg3 (R317). -/
  | sch0l (reg2 reg3 : Reg)
  /-- SCH0R reg2, reg3 (R318). -/
  | sch0r (reg2 reg3 : Reg)
  /-- SCH1L reg2, reg3 (R319). -/
  | sch1l (reg2 reg3 : Reg)
  /-- SCH1R reg2, reg3 (R320). -/
  | sch1r (reg2 reg3 : Reg)
  /-- DIV reg1, reg2, reg3 (R331). -/
  | div (reg1 reg2 reg3 : Reg)
  /-- DIVH reg1, reg2 (R332). -/
  | divh2 (reg1 reg2 : Reg)
  /-- DIVH reg1, reg2, reg3 (R332). -/
  | divh3 (reg1 reg2 reg3 : Reg)
  /-- DIVHU reg1, reg2, reg3 (R333). -/
  | divhu (reg1 reg2 reg3 : Reg)
  /-- DIVU reg1, reg2, reg3 (R334). -/
  | divu (reg1 reg2 reg3 : Reg)
  /-- DIVQ reg1, reg2, reg3 (R335). -/
  | divq (reg1 reg2 reg3 : Reg)
  /-- DIVQU reg1, reg2, reg3 (R336). -/
  | divqu (reg1 reg2 reg3 : Reg)
  /-- Bcond disp9 (R341). -/
  | bcond9 (cond : Cond) (disp : BitVec 8)
  /-- Bcond disp17 (R341). -/
  | bcond17 (cond : Cond) (disp : BitVec 16)
  /-- JARL disp22, reg2 (R342). -/
  | jarl22 (disp : BitVec 21) (reg2 : Reg)
  /-- JARL disp32, reg1 (R342). -/
  | jarl32 (disp : BitVec 31) (reg1 : Reg)
  /-- JARL [reg1], reg3 (R342). -/
  | jarlReg (reg1 reg3 : Reg)
  /-- JMP [reg1] (R343). -/
  | jmpReg (reg1 : Reg)
  /-- JMP disp32[reg1] (R343). -/
  | jmp32 (disp : BitVec 31) (reg1 : Reg)
  /-- JR disp22 (R344). -/
  | jr22 (disp : BitVec 21)
  /-- JR disp32 (R344). -/
  | jr32 (disp : BitVec 31)
  /-- LOOP reg1, disp16 (R345). -/
  | loop (reg1 : Reg) (disp : BitVec 15)
  /-- CLR1 bit#3, disp16[reg1] (R356). -/
  | clr1 (bit3 : BitVec 3) (disp16 : BitVec 16) (reg1 : Reg)
  /-- CLR1 reg2, [reg1] (R356). -/
  | clr1Reg (reg1 reg2 : Reg)
  /-- NOT1 bit#3, disp16[reg1] (R357). -/
  | not1 (bit3 : BitVec 3) (disp16 : BitVec 16) (reg1 : Reg)
  /-- NOT1 reg2, [reg1] (R357). -/
  | not1Reg (reg1 reg2 : Reg)
  /-- SET1 bit#3, disp16[reg1] (R358). -/
  | set1 (bit3 : BitVec 3) (disp16 : BitVec 16) (reg1 : Reg)
  /-- SET1 reg2, [reg1] (R358). -/
  | set1Reg (reg1 reg2 : Reg)
  /-- TST1 bit#3, disp16[reg1] (R359). -/
  | tst1 (bit3 : BitVec 3) (disp16 : BitVec 16) (reg1 : Reg)
  /-- TST1 reg2, [reg1] (R359). -/
  | tst1Reg (reg1 reg2 : Reg)
  /-- CALLT imm6 (R365). -/
  | callt (imm6 : BitVec 6)
  /-- CAXI [reg1], reg2, reg3 (R366). -/
  | caxi (reg1 reg2 reg3 : Reg)
  /-- CLL (R367): this core treats it as a reserved instruction. -/
  | cll
  /-- CTRET (R368). -/
  | ctret
  /-- DI (R369). -/
  | di
  /-- DISPOSE imm5, list12 (R370). -/
  | dispose (imm5 : BitVec 5) (list12 : BitVec 12)
  /-- DISPOSE imm5, list12, [reg1] (R370). -/
  | disposeJmp (imm5 : BitVec 5) (list12 : BitVec 12) (reg1 : Reg)
  /-- EI (R376). -/
  | ei
  /-- EIRET (R377). -/
  | eiret
  /-- FERET (R378). -/
  | feret
  /-- FETRAP vector4 (R379). -/
  | fetrap (vector4 : BitVec 4)
  /-- HALT (R380). -/
  | halt
  /-- LDL.W [reg1], reg3 (R381). -/
  | ldlW (reg1 reg3 : Reg)
  /-- LDSR reg2, regID, selID (R385). -/
  | ldsr (reg2 : Reg) (regID selID : BitVec 5)
  /-- NOP (R382). -/
  | nop
  /-- POPSP rh-rt (R372). -/
  | popsp (rh rt : Reg)
  /-- PREPARE list12, imm5 (R373). -/
  | prepare (imm5 : BitVec 5) (list12 : BitVec 12)
  /-- PREPARE list12, imm5, sp (R373). -/
  | prepareSp (imm5 : BitVec 5) (list12 : BitVec 12)
  /-- PREPARE list12, imm5, imm16 sign-extended (R373). -/
  | prepareImmLo (imm5 : BitVec 5) (list12 : BitVec 12) (imm16 : BitVec 16)
  /-- PREPARE list12, imm5, imm16 shifted left by 16 (R373). -/
  | prepareImmHi (imm5 : BitVec 5) (list12 : BitVec 12) (imm16 : BitVec 16)
  /-- PREPARE list12, imm5, imm32 (R373). -/
  | prepareImm32 (imm5 : BitVec 5) (list12 : BitVec 12) (imm32 : BitVec 32)
  /-- PUSHSP rh-rt (R374). -/
  | pushsp (rh rt : Reg)
  /-- RIE, 16-bit form (R383). -/
  | rie
  /-- RIE imm5, imm4 (R383). -/
  | rieImm (imm5 : BitVec 5) (imm4 : BitVec 4)
  /-- SNOOZE (R384). -/
  | snooze
  /-- STC.W reg3, [reg1] (R392). -/
  | stcW (reg1 reg3 : Reg)
  /-- STSR regID, reg2, selID (R386). -/
  | stsr (regID : BitVec 5) (reg2 : Reg) (selID : BitVec 5)
  /-- SWITCH reg1 (R387). -/
  | switch (reg1 : Reg)
  /-- SYNCE (R393). -/
  | synce
  /-- SYNCI (R394). -/
  | synci
  /-- SYNCM (R395). -/
  | syncm
  /-- SYNCP (R396). -/
  | syncp
  /-- SYSCALL vector8 (R397). -/
  | syscall (vector8 : BitVec 8)
  /-- TRAP vector5 (R388). -/
  | trap (vector5 : BitVec 5)
  /-- CACHE cacheop, [reg1] (R398); the word of CLL is not one of its words. -/
  | cache (cacheop : BitVec 7) (reg1 : Reg)
  /-- PREF prefop, [reg1] (R399). -/
  | pref (prefop : BitVec 5) (reg1 : Reg)
deriving DecidableEq, Repr

end Sys2Proof
end

