-- ==== Sys2Proof/Machine/Flags.lean ====
section
/-!
DEFINITION. The flag computations: addition and subtraction with their flags, saturation, the logical flags, and the
condition codes (spec/41_arithmetic.md R240 to R242; spec/42_saturated_logical.md R280, R285; spec/30_encoding.md R172).
-/
namespace Sys2Proof.Machine

open Sys2Proof

/-- A 32-bit addition or subtraction: the exact signed result, the result modulo 2^32, carry or borrow, overflow. -/
structure Arith where
  exact : Int
  res : Word
  cy : Bool
  ov : Bool
deriving DecidableEq, Repr

/-- A signed result that 32 bits cannot hold (spec/41_arithmetic.md R240). -/
def overflows (t : Int) : Bool := decide (t < -2 ^ 31) || decide (2 ^ 31 - 1 < t)

/-- `add32` (spec/41_arithmetic.md R240). -/
def add32 (a b : Word) (cin : Bool) : Arith :=
  let u := a.toNat + b.toNat + cin.toNat
  let t : Int := a.toInt + b.toInt + cin.toNat
  { exact := t, res := BitVec.ofNat 32 u, cy := decide (2 ^ 32 ≤ u), ov := overflows t }

/-- `sub32` (spec/41_arithmetic.md R241). -/
def sub32 (a b : Word) (bin : Bool) : Arith :=
  let u : Int := (a.toNat : Int) - b.toNat - bin.toNat
  let t : Int := a.toInt - b.toInt - bin.toNat
  { exact := t, res := BitVec.ofInt 32 u, cy := decide (u < 0), ov := overflows t }

/-- The saturated result (spec/42_saturated_logical.md R280). -/
def Arith.saturated (r : Arith) : Word :=
  if r.ov then (if 2 ^ 31 - 1 < r.exact then 0x7FFFFFFF else 0x80000000) else r.res

/-- Write CY, OV, S and Z. -/
def State.setFlags (s : State) (cy ov sg z : Bool) : State :=
  { s with psw := { s.psw with cy := cy, ov := ov, s := sg, z := z } }

/-- Write OV, S and Z; CY and SAT keep their values. -/
def State.setOvSZ (s : State) (ov sg z : Bool) : State :=
  { s with psw := { s.psw with ov := ov, s := sg, z := z } }

/-- Write Z alone. -/
def State.setZ (s : State) (z : Bool) : State := { s with psw := { s.psw with z := z } }

/-- The flags of an addition or subtraction (spec/41_arithmetic.md R242). -/
def State.setArithFlags (s : State) (r : Arith) : State := s.setFlags r.cy r.ov r.res.msb (r.res == 0)

/-- The flags of a saturated operation; SAT is set on overflow and never cleared (spec/42_saturated_logical.md
R280). -/
def State.setSatFlags (s : State) (r : Arith) : State :=
  let t := s.setFlags r.cy r.ov r.saturated.msb (r.saturated == 0)
  { t with psw := { t.psw with sat := t.psw.sat || r.ov } }

/-- The flags of a logical operation: OV cleared, S and Z from the result (spec/42_saturated_logical.md R285). -/
def State.setLogicFlags (s : State) (res : Word) : State := s.setOvSZ false res.msb (res == 0)

/-- The flags of a shift: CY as given, the others as a logical operation (spec/43_data_manipulation.md R300). -/
def State.setShiftFlags (s : State) (cy : Bool) (res : Word) : State := s.setFlags cy false res.msb (res == 0)

/-- The condition codes on the flags (spec/30_encoding.md R172). -/
def Psw.holds (p : Psw) : Cond → Bool
  | .v => p.ov
  | .nv => !p.ov
  | .c => p.cy
  | .nc => !p.cy
  | .z => p.z
  | .nz => !p.z
  | .nh => p.cy || p.z
  | .h => !(p.cy || p.z)
  | .s => p.s
  | .ns => !p.s
  | .t => true
  | .sa => p.sat
  | .lt => p.s ^^ p.ov
  | .ge => !(p.s ^^ p.ov)
  | .le => (p.s ^^ p.ov) || p.z
  | .gt => !((p.s ^^ p.ov) || p.z)

end Sys2Proof.Machine
end

