-- ==== Sys2Proof/Machine/Operands.lean ====
section
/-!
DEFINITION. The operand forms: effective addresses, extensions of what a load reads, register lists and ranges, shift
amounts (spec/20_memory.md R127, R128; spec/40_load_store.md R200; spec/47_special.md R371 to R375).
-/
namespace Sys2Proof.Machine

open Sys2Proof

/-! ### Addresses -/

/-- `disp16[reg1]` (spec/40_load_store.md R200). -/
def State.addr16 (s : State) (reg1 : Reg) (disp : BitVec 16) : Word := s.reg reg1 + disp.signExtend 32

/-- `disp16[reg1]` whose bit 0 is not encoded (spec/30_encoding.md R165). -/
def State.addr15 (s : State) (reg1 : Reg) (disp : BitVec 15) : Word := s.reg reg1 + (disp ++ 0#1).signExtend 32

/-- `disp23[reg1]` (spec/40_load_store.md R200). -/
def State.addr23 (s : State) (reg1 : Reg) (disp : BitVec 23) : Word := s.reg reg1 + disp.signExtend 32

/-- `disp23[reg1]` whose bit 0 is not encoded (spec/30_encoding.md R165). -/
def State.addr22 (s : State) (reg1 : Reg) (disp : BitVec 22) : Word := s.reg reg1 + (disp ++ 0#1).signExtend 32

/-- `disp[ep]`, zero-extended (spec/40_load_store.md R200, spec/20_memory.md R128). -/
def State.addrEp {n : Nat} (s : State) (disp : BitVec n) : Word := s.reg ep + disp.setWidth 32

/-! ### What a load makes of the bytes it reads -/

/-- `sext_8`. -/
def signByte (v : Dword) : Word := (v.setWidth 8).signExtend 32

/-- `zext_8`. -/
def zeroByte (v : Dword) : Word := (v.setWidth 8).setWidth 32

/-- `sext_16`. -/
def signHalf (v : Dword) : Word := (v.setWidth 16).signExtend 32

/-- `zext_16`. -/
def zeroHalf (v : Dword) : Word := (v.setWidth 16).setWidth 32

/-- Read `n` bytes at `a` in the current mode into register `r`; the instruction has `len` bytes. -/
def State.loadReg (s : State) (t : AccessTag) (a : Word) (n : Nat) (ext : Dword → Word) (r : Reg) (len : Nat) :
    Result :=
  (s.memRead t s.psw.um a n).andThen fun v s => (s.setReg r (ext v)).done len

/-- Store the low `n` bytes of register `r` at `a`; the instruction has `len` bytes. -/
def State.storeReg (s : State) (t : AccessTag) (a : Word) (n : Nat) (r : Reg) (len : Nat) : Result :=
  (s.memWrite t a n ((s.reg r).setWidth 64)).andThen fun _ s => s.done len

/-! ### Conditions, lists, ranges -/

/-- `cond(cccc)` on the flags before the instruction (spec/30_encoding.md R172). -/
def State.cond (s : State) (cc : Cond) : Bool := s.psw.holds cc

/-- The register and the bit of `list12` that names it, in ascending order (spec/47_special.md R371). -/
def listBits : List (Reg × Nat) :=
  [(20, 7), (21, 6), (22, 5), (23, 4), (24, 11), (25, 10), (26, 9), (27, 8), (28, 3), (29, 2), (30, 0), (31, 1)]

/-- The registers of `list12` in ascending order (spec/47_special.md R371). -/
def listRegs (list12 : BitVec 12) : List Reg := (listBits.filter (fun p => list12.getLsbD p.2)).map (·.1)

/-- The registers from `rh` to `rt` in ascending order; none where `rh` is above `rt` (spec/47_special.md R374). -/
def rangeRegs (rh rt : Reg) : List Reg :=
  (List.range (rt.toNat + 1 - rh.toNat)).map (fun k => rh + BitVec.ofNat 5 k)

/-- The address of a stack transfer: the low two bits forced to 0 (spec/47_special.md R375 (a)). -/
def stackAddr (tmp : Word) : Word := tmp &&& 0xFFFFFFFC#32

/-- Store registers downward from `tmp`, one word each; the answer is the last `tmp` (spec/47_special.md R373, R374,
R375). -/
def State.storeBlock (s : State) (t : AccessTag) (tmp : Word) : List Reg → Access Word
  | [] => .done tmp s
  | r :: rest =>
    (s.memWrite t (stackAddr (tmp - 4)) 4 ((s.reg r).setWidth 64)).bind fun _ s' =>
      s'.storeBlock t (tmp - 4) rest

/-- Load a register from the stack; the word for sp is dropped (spec/47_special.md R372). -/
def State.restoreReg (s : State) (r : Reg) (v : Word) : State := if r = sp then s else s.setReg r v

/-- Load registers upward from `tmp`, one word each; the answer is the last `tmp` (spec/47_special.md R370, R372,
R375). -/
def State.loadBlock (s : State) (t : AccessTag) (tmp : Word) : List Reg → Access Word
  | [] => .done tmp s
  | r :: rest =>
    (s.memRead t s.psw.um (stackAddr tmp) 4).bind fun v s' =>
      (s'.restoreReg r v.low).loadBlock t (tmp + 4) rest

/-- The PIE exception where a supervisor-level instruction runs in user mode (spec/60_exceptions.md R470). -/
def State.privileged (s : State) (k : State → Result) : Result :=
  if s.psw.um then .next (s.raise .pie) else k s

end Sys2Proof.Machine
end

