-- ==== Sys2Proof/Machine/Arith.lean ====
section
/-!
DEFINITION. Multiply, multiply-accumulate, arithmetic and conditional arithmetic instructions
(spec/41_arithmetic.md).
-/
namespace Sys2Proof.Machine

open Sys2Proof

/-! ### Multiply -/

/-- The low word of a product to reg2, then the high word to reg3, which wins where they are one register
(spec/41_arithmetic.md R251). -/
def State.setProduct (s : State) (reg2 reg3 : Reg) (p : Dword) : State := (s.setReg reg2 p.low).setReg reg3 p.high

/-- The exact signed product (spec/41_arithmetic.md R251). -/
def signedProduct (a b : Word) : Dword := BitVec.ofInt 64 (a.toInt * b.toInt)

/-- The exact unsigned product (spec/41_arithmetic.md R254). -/
def unsignedProduct (a b : Word) : Dword := BitVec.ofNat 64 (a.toNat * b.toNat)

/-- The signed product of the lower halfwords (spec/41_arithmetic.md R252). -/
def halfProduct (a b : Half) : Word := BitVec.ofInt 32 (a.toInt * b.toInt)

/-- MUL reg1, reg2, reg3 (spec/41_arithmetic.md R251). -/
def execMul (reg1 reg2 reg3 : Reg) (s : State) : Result :=
  (s.setProduct reg2 reg3 (signedProduct (s.reg reg2) (s.reg reg1))).done 4

/-- MUL imm9, reg2, reg3 (spec/41_arithmetic.md R251). -/
def execMulImm (imm9 : BitVec 9) (reg2 reg3 : Reg) (s : State) : Result :=
  (s.setProduct reg2 reg3 (signedProduct (s.reg reg2) (imm9.signExtend 32))).done 4

/-- MULH reg1, reg2 (spec/41_arithmetic.md R252). -/
def execMulh (reg1 reg2 : Reg) (s : State) : Result :=
  (s.setReg reg2 (halfProduct ((s.reg reg2).setWidth 16) ((s.reg reg1).setWidth 16))).done 2

/-- MULH imm5, reg2 (spec/41_arithmetic.md R252). -/
def execMulhImm (imm5 : BitVec 5) (reg2 : Reg) (s : State) : Result :=
  (s.setReg reg2 (halfProduct ((s.reg reg2).setWidth 16) (imm5.signExtend 16))).done 2

/-- MULHI (spec/41_arithmetic.md R253). -/
def execMulhi (imm16 : BitVec 16) (reg1 reg2 : Reg) (s : State) : Result :=
  (s.setReg reg2 (halfProduct ((s.reg reg1).setWidth 16) imm16)).done 4

/-- MULU reg1, reg2, reg3 (spec/41_arithmetic.md R254). -/
def execMulu (reg1 reg2 reg3 : Reg) (s : State) : Result :=
  (s.setProduct reg2 reg3 (unsignedProduct (s.reg reg2) (s.reg reg1))).done 4

/-- MULU imm9, reg2, reg3 (spec/41_arithmetic.md R254). -/
def execMuluImm (imm9 : BitVec 9) (reg2 reg3 : Reg) (s : State) : Result :=
  (s.setProduct reg2 reg3 (unsignedProduct (s.reg reg2) (imm9.setWidth 32))).done 4

/-! ### Multiply-accumulate -/

/-- The even register of a pair, from bits 4 to 1 of its number (spec/41_arithmetic.md R255). -/
def evenReg (r : BitVec 4) : Reg := r ++ 0#1

/-- The odd register of a pair (spec/41_arithmetic.md R255). -/
def oddReg (r : BitVec 4) : Reg := r ++ 1#1

/-- The value of a register pair (spec/41_arithmetic.md R255). -/
def State.pair (s : State) (r : BitVec 4) : Dword := s.reg (oddReg r) ++ s.reg (evenReg r)

/-- Write a register pair (spec/41_arithmetic.md R255). -/
def State.setPair (s : State) (r : BitVec 4) (v : Dword) : State :=
  (s.setReg (evenReg r) v.low).setReg (oddReg r) v.high

/-- MAC (spec/41_arithmetic.md R255). -/
def execMac (reg1 reg2 : Reg) (reg3 reg4 : BitVec 4) (s : State) : Result :=
  (s.setPair reg4 (signedProduct (s.reg reg2) (s.reg reg1) + s.pair reg3)).done 4

/-- MACU (spec/41_arithmetic.md R256). -/
def execMacu (reg1 reg2 : Reg) (reg3 reg4 : BitVec 4) (s : State) : Result :=
  (s.setPair reg4 (unsignedProduct (s.reg reg2) (s.reg reg1) + s.pair reg3)).done 4

/-! ### Arithmetic -/

/-- Write the result of an addition or subtraction to `r`, and its flags (spec/41_arithmetic.md R242). -/
def State.setArith (s : State) (r : Reg) (x : Arith) : State := (s.setReg r x.res).setArithFlags x

/-- ADD reg1, reg2 (spec/41_arithmetic.md R243). -/
def execAddReg (reg1 reg2 : Reg) (s : State) : Result :=
  (s.setArith reg2 (add32 (s.reg reg2) (s.reg reg1) false)).done 2

/-- ADD imm5, reg2 (spec/41_arithmetic.md R243). -/
def execAddImm (imm5 : BitVec 5) (reg2 : Reg) (s : State) : Result :=
  (s.setArith reg2 (add32 (s.reg reg2) (imm5.signExtend 32) false)).done 2

/-- ADDI (spec/41_arithmetic.md R244). -/
def execAddi (imm16 : BitVec 16) (reg1 reg2 : Reg) (s : State) : Result :=
  (s.setArith reg2 (add32 (s.reg reg1) (imm16.signExtend 32) false)).done 4

/-- CMP reg1, reg2 (spec/41_arithmetic.md R245). -/
def execCmpReg (reg1 reg2 : Reg) (s : State) : Result :=
  (s.setArithFlags (sub32 (s.reg reg2) (s.reg reg1) false)).done 2

/-- CMP imm5, reg2 (spec/41_arithmetic.md R245). -/
def execCmpImm (imm5 : BitVec 5) (reg2 : Reg) (s : State) : Result :=
  (s.setArithFlags (sub32 (s.reg reg2) (imm5.signExtend 32) false)).done 2

/-- MOV reg1, reg2 (spec/41_arithmetic.md R246). -/
def execMovReg (reg1 reg2 : Reg) (s : State) : Result := (s.setReg reg2 (s.reg reg1)).done 2

/-- MOV imm5, reg2 (spec/41_arithmetic.md R246). -/
def execMovImm5 (imm5 : BitVec 5) (reg2 : Reg) (s : State) : Result := (s.setReg reg2 (imm5.signExtend 32)).done 2

/-- MOV imm32, reg1 (spec/41_arithmetic.md R246). -/
def execMovImm32 (imm32 : BitVec 32) (reg1 : Reg) (s : State) : Result := (s.setReg reg1 imm32).done 6

/-- MOVEA (spec/41_arithmetic.md R247). -/
def execMovea (imm16 : BitVec 16) (reg1 reg2 : Reg) (s : State) : Result :=
  (s.setReg reg2 (s.reg reg1 + imm16.signExtend 32)).done 4

/-- MOVHI (spec/41_arithmetic.md R248). -/
def execMovhi (imm16 : BitVec 16) (reg1 reg2 : Reg) (s : State) : Result :=
  (s.setReg reg2 (s.reg reg1 + (imm16 ++ 0#16))).done 4

/-- SUB (spec/41_arithmetic.md R249). -/
def execSub (reg1 reg2 : Reg) (s : State) : Result :=
  (s.setArith reg2 (sub32 (s.reg reg2) (s.reg reg1) false)).done 2

/-- SUBR (spec/41_arithmetic.md R250). -/
def execSubr (reg1 reg2 : Reg) (s : State) : Result :=
  (s.setArith reg2 (sub32 (s.reg reg1) (s.reg reg2) false)).done 2

/-- ADF (spec/41_arithmetic.md R257). -/
def execAdf (cond : Cond) (reg1 reg2 reg3 : Reg) (s : State) : Result :=
  (s.setArith reg3 (add32 (s.reg reg1) (s.reg reg2) (s.cond cond))).done 4

/-- SBF (spec/41_arithmetic.md R258). -/
def execSbf (cond : Cond) (reg1 reg2 reg3 : Reg) (s : State) : Result :=
  (s.setArith reg3 (sub32 (s.reg reg2) (s.reg reg1) (s.cond cond))).done 4

end Sys2Proof.Machine
end

