-- ==== Sys2Proof/Machine/BitManip.lean ====
section
/-!
DEFINITION. Bit manipulation instructions (spec/46_bit_manipulation.md).
-/
namespace Sys2Proof.Machine

open Sys2Proof

/-- The MEI row of SET1, CLR1 and NOT1; TST1 has it without the read-modify-write mark (spec/10_state.md R61,
spec/20_memory.md R122). -/
def bitTag (rmw : Bool) : AccessTag := ⟨0, 0, true, 0b01001, false, false, rmw⟩

/-- Change bit `b` of the byte at `a` by `f`, and take Z from the bit before (spec/46_bit_manipulation.md R355). -/
def State.changeBit (s : State) (a : Word) (b : BitVec 3) (f : Dword → Dword → Dword) : Result :=
  (s.memModify (bitTag true) a 1 (fun v => f v (1#64 <<< b.toNat))).andThen fun v s =>
    (s.setZ (!v.getLsbD b.toNat)).done 4

/-- Take Z from bit `b` of the byte at `a` (spec/46_bit_manipulation.md R359). -/
def State.testBit (s : State) (a : Word) (b : BitVec 3) : Result :=
  (s.memRead (bitTag false) s.psw.um a 1).andThen fun v s => (s.setZ (!v.getLsbD b.toNat)).done 4

/-- The bit number in a register: its lower three bits (spec/46_bit_manipulation.md R355). -/
def State.bitNumber (s : State) (r : Reg) : BitVec 3 := (s.reg r).setWidth 3

/-- A byte with a bit set. -/
def setBit (v m : Dword) : Dword := v ||| m

/-- A byte with a bit cleared. -/
def clearBit (v m : Dword) : Dword := v &&& ~~~m

/-- A byte with a bit inverted. -/
def notBit (v m : Dword) : Dword := v ^^^ m

/-- CLR1 bit#3, disp16[reg1] (spec/46_bit_manipulation.md R356). -/
def execClr1 (bit3 : BitVec 3) (disp16 : BitVec 16) (reg1 : Reg) (s : State) : Result :=
  s.changeBit (s.addr16 reg1 disp16) bit3 clearBit

/-- CLR1 reg2, [reg1] (spec/46_bit_manipulation.md R356). -/
def execClr1Reg (reg1 reg2 : Reg) (s : State) : Result := s.changeBit (s.reg reg1) (s.bitNumber reg2) clearBit

/-- NOT1 bit#3, disp16[reg1] (spec/46_bit_manipulation.md R357). -/
def execNot1 (bit3 : BitVec 3) (disp16 : BitVec 16) (reg1 : Reg) (s : State) : Result :=
  s.changeBit (s.addr16 reg1 disp16) bit3 notBit

/-- NOT1 reg2, [reg1] (spec/46_bit_manipulation.md R357). -/
def execNot1Reg (reg1 reg2 : Reg) (s : State) : Result := s.changeBit (s.reg reg1) (s.bitNumber reg2) notBit

/-- SET1 bit#3, disp16[reg1] (spec/46_bit_manipulation.md R358). -/
def execSet1 (bit3 : BitVec 3) (disp16 : BitVec 16) (reg1 : Reg) (s : State) : Result :=
  s.changeBit (s.addr16 reg1 disp16) bit3 setBit

/-- SET1 reg2, [reg1] (spec/46_bit_manipulation.md R358). -/
def execSet1Reg (reg1 reg2 : Reg) (s : State) : Result := s.changeBit (s.reg reg1) (s.bitNumber reg2) setBit

/-- TST1 bit#3, disp16[reg1] (spec/46_bit_manipulation.md R359). -/
def execTst1 (bit3 : BitVec 3) (disp16 : BitVec 16) (reg1 : Reg) (s : State) : Result :=
  s.testBit (s.addr16 reg1 disp16) bit3

/-- TST1 reg2, [reg1] (spec/46_bit_manipulation.md R359). -/
def execTst1Reg (reg1 reg2 : Reg) (s : State) : Result := s.testBit (s.reg reg1) (s.bitNumber reg2)

end Sys2Proof.Machine
end

