-- ==== Sys2Proof/Machine/Branch.lean ====
section
/-!
DEFINITION. Branch and loop instructions (spec/45_branch_loop.md). A displacement whose bit 0 is not encoded gets it
back as 0 (spec/30_encoding.md R165); the base is the address of the instruction itself (R340).
-/
namespace Sys2Proof.Machine

open Sys2Proof

/-- Go to `target` (spec/45_branch_loop.md R340). -/
def State.jump (s : State) (target : Word) : Result := .next (s.setPc target)

/-- Bcond disp9 (spec/45_branch_loop.md R341). -/
def execBcond9 (cond : Cond) (disp : BitVec 8) (s : State) : Result :=
  if s.cond cond then s.jump (s.pc + (disp ++ 0#1).signExtend 32) else s.done 2

/-- Bcond disp17 (spec/45_branch_loop.md R341). -/
def execBcond17 (cond : Cond) (disp : BitVec 16) (s : State) : Result :=
  if s.cond cond then s.jump (s.pc + (disp ++ 0#1).signExtend 32) else s.done 4

/-- JARL disp22, reg2 (spec/45_branch_loop.md R342). -/
def execJarl22 (disp : BitVec 21) (reg2 : Reg) (s : State) : Result :=
  (s.setReg reg2 (s.pc + 4)).jump (s.pc + (disp ++ 0#1).signExtend 32)

/-- JARL disp32, reg1 (spec/45_branch_loop.md R342). -/
def execJarl32 (disp : BitVec 31) (reg1 : Reg) (s : State) : Result :=
  (s.setReg reg1 (s.pc + 6)).jump (s.pc + (disp ++ 0#1))

/-- JARL [reg1], reg3: reg1 is read first (spec/45_branch_loop.md R342). -/
def execJarlReg (reg1 reg3 : Reg) (s : State) : Result := (s.setReg reg3 (s.pc + 4)).jump (s.reg reg1)

/-- JMP [reg1] (spec/45_branch_loop.md R343). -/
def execJmpReg (reg1 : Reg) (s : State) : Result := s.jump (s.reg reg1)

/-- JMP disp32[reg1] (spec/45_branch_loop.md R343). -/
def execJmp32 (disp : BitVec 31) (reg1 : Reg) (s : State) : Result := s.jump (s.reg reg1 + (disp ++ 0#1))

/-- JR disp22 (spec/45_branch_loop.md R344). -/
def execJr22 (disp : BitVec 21) (s : State) : Result := s.jump (s.pc + (disp ++ 0#1).signExtend 32)

/-- JR disp32 (spec/45_branch_loop.md R344). -/
def execJr32 (disp : BitVec 31) (s : State) : Result := s.jump (s.pc + (disp ++ 0#1))

/-- LOOP (spec/45_branch_loop.md R345). -/
def execLoop (reg1 : Reg) (disp : BitVec 15) (s : State) : Result :=
  let x := add32 (s.reg reg1) 0xFFFFFFFF false
  let t := (s.setReg reg1 x.res).setArithFlags x
  if x.res = 0 then t.done 4 else t.jump (s.pc - (disp ++ 0#1).setWidth 32)

end Sys2Proof.Machine
end

