-- ==== Sys2Proof/Machine/DataManip.lean ====
section
/-!
DEFINITION. Data manipulation and bit search instructions (spec/43_data_manipulation.md).
-/
namespace Sys2Proof.Machine

open Sys2Proof

/-! ### Bit field insert and swaps -/

/-- The word with ones from bit `lsb` to bit `msb`. -/
def fieldMask (msb lsb : Nat) : Word := ((1#32 <<< (msb + 1 - lsb)) - 1#32) <<< lsb

/-- `old` with the low bits of `new` in bits `msb` to `lsb` (spec/43_data_manipulation.md R301). -/
def insertField (old new : Word) (msb lsb : Nat) : Word :=
  (old &&& ~~~(fieldMask msb lsb)) ||| ((new <<< lsb) &&& fieldMask msb lsb)

/-- BINS of reg1 into bits `msb` to `lsb` of reg2. Where `msb` is below `lsb` the operation is undefined: reg2, OV, S
and Z take free values (spec/43_data_manipulation.md R301, spec/93_implementation_defined.md U6). -/
def State.insertBits (s : State) (reg1 reg2 : Reg) (msb lsb : Nat) : State :=
  if msb < lsb then
    ((s.setReg reg2 (s.freeWord 0)).setOvSZ (s.freeBit 1) (s.freeBit 2) (s.freeBit 3)).useFree 4
  else
    let res := insertField (s.reg reg2) (s.reg reg1) msb lsb
    (s.setReg reg2 res).setLogicFlags res

/-- BINS, msb >= 16 and lsb >= 16 (spec/43_data_manipulation.md R301). -/
def execBinsHh (reg1 : Reg) (msb lsb : BitVec 4) (reg2 : Reg) (s : State) : Result :=
  (s.insertBits reg1 reg2 (msb.toNat + 16) (lsb.toNat + 16)).done 4

/-- BINS, msb >= 16 and lsb < 16 (spec/43_data_manipulation.md R301). -/
def execBinsHl (reg1 : Reg) (msb lsb : BitVec 4) (reg2 : Reg) (s : State) : Result :=
  (s.insertBits reg1 reg2 (msb.toNat + 16) lsb.toNat).done 4

/-- BINS, msb < 16 and lsb < 16 (spec/43_data_manipulation.md R301). -/
def execBinsLl (reg1 : Reg) (msb lsb : BitVec 4) (reg2 : Reg) (s : State) : Result :=
  (s.insertBits reg1 reg2 msb.toNat lsb.toNat).done 4

/-- Byte `k` of a word. -/
def byteOf (w : Word) (k : Nat) : Byte := w.extractLsb' (8 * k) 8

/-- Halfword `k` of a word. -/
def halfOf (w : Word) (k : Nat) : Half := w.extractLsb' (16 * k) 16

/-- Write a swapped word to `r`, with OV cleared and S from it (spec/43_data_manipulation.md R302 to R306). -/
def State.setSwapped (s : State) (r : Reg) (res : Word) (cy z : Bool) : State :=
  (s.setReg r res).setFlags cy false res.msb z

/-- BSH (spec/43_data_manipulation.md R302). -/
def execBsh (reg2 reg3 : Reg) (s : State) : Result :=
  let v := s.reg reg2
  let res : Word := byteOf v 2 ++ byteOf v 3 ++ byteOf v 0 ++ byteOf v 1
  (s.setSwapped reg3 res (byteOf res 0 == 0 || byteOf res 1 == 0) (halfOf res 0 == 0)).done 4

/-- BSW (spec/43_data_manipulation.md R303). -/
def execBsw (reg2 reg3 : Reg) (s : State) : Result :=
  let v := s.reg reg2
  let res : Word := byteOf v 0 ++ byteOf v 1 ++ byteOf v 2 ++ byteOf v 3
  (s.setSwapped reg3 res (byteOf res 0 == 0 || byteOf res 1 == 0 || byteOf res 2 == 0 || byteOf res 3 == 0)
    (res == 0)).done 4

/-- HSH (spec/43_data_manipulation.md R305). -/
def execHsh (reg2 reg3 : Reg) (s : State) : Result :=
  let res := s.reg reg2
  (s.setSwapped reg3 res (halfOf res 0 == 0) (halfOf res 0 == 0)).done 4

/-- HSW (spec/43_data_manipulation.md R306). -/
def execHsw (reg2 reg3 : Reg) (s : State) : Result :=
  let v := s.reg reg2
  let res : Word := halfOf v 0 ++ halfOf v 1
  (s.setSwapped reg3 res (halfOf res 0 == 0 || halfOf res 1 == 0) (res == 0)).done 4

/-! ### Conditions -/

/-- CMOV cccc, reg1, reg2, reg3 (spec/43_data_manipulation.md R304). -/
def execCmov (cond : Cond) (reg1 reg2 reg3 : Reg) (s : State) : Result :=
  (s.setReg reg3 (if s.cond cond then s.reg reg1 else s.reg reg2)).done 4

/-- CMOV cccc, imm5, reg2, reg3 (spec/43_data_manipulation.md R304). -/
def execCmovImm (cond : Cond) (imm5 : BitVec 5) (reg2 reg3 : Reg) (s : State) : Result :=
  (s.setReg reg3 (if s.cond cond then imm5.signExtend 32 else s.reg reg2)).done 4

/-- SASF (spec/43_data_manipulation.md R309). -/
def execSasf (cond : Cond) (reg2 : Reg) (s : State) : Result :=
  (s.setReg reg2 ((s.reg reg2 <<< 1) ||| (BitVec.ofBool (s.cond cond)).setWidth 32)).done 4

/-- SETF (spec/43_data_manipulation.md R310). -/
def execSetf (cond : Cond) (reg2 : Reg) (s : State) : Result :=
  (s.setReg reg2 (if s.cond cond then 1 else 0)).done 4

/-! ### Shifts and rotates; the amount is 0 to 31 (spec/43_data_manipulation.md R300) -/

/-- The amount in a register: its lower five bits (spec/43_data_manipulation.md R300). -/
def State.amount (s : State) (r : Reg) : Nat := ((s.reg r).setWidth 5).toNat

/-- Write a shifted word to `r`, and the flags (spec/43_data_manipulation.md R300). -/
def State.setShifted (s : State) (r : Reg) (cy : Bool) (res : Word) : State := (s.setReg r res).setShiftFlags cy res

/-- The last bit that a right shift by `n` shifts out; 0 where `n` is 0 (spec/43_data_manipulation.md R308, R312). -/
def lastOutRight (v : Word) (n : Nat) : Bool := n != 0 && v.getLsbD (n - 1)

/-- The last bit that a left shift by `n` shifts out; 0 where `n` is 0 (spec/43_data_manipulation.md R311). -/
def lastOutLeft (v : Word) (n : Nat) : Bool := n != 0 && v.getLsbD (32 - n)

/-- Shift reg2 left into `r` (spec/43_data_manipulation.md R311). -/
def State.shiftLeft (s : State) (reg2 r : Reg) (n : Nat) : State :=
  s.setShifted r (lastOutLeft (s.reg reg2) n) (s.reg reg2 <<< n)

/-- Shift reg2 right into `r`, zeros from above (spec/43_data_manipulation.md R312). -/
def State.shiftRight (s : State) (reg2 r : Reg) (n : Nat) : State :=
  s.setShifted r (lastOutRight (s.reg reg2) n) (s.reg reg2 >>> n)

/-- Shift reg2 right into `r`, the sign from above (spec/43_data_manipulation.md R308). -/
def State.shiftArith (s : State) (reg2 r : Reg) (n : Nat) : State :=
  s.setShifted r (lastOutRight (s.reg reg2) n) ((s.reg reg2).sshiftRight n)

/-- Rotate reg2 left into `r`; CY is bit 0 of the result, 0 where the amount is 0 (spec/43_data_manipulation.md
R307). -/
def State.rotate (s : State) (reg2 r : Reg) (n : Nat) : State :=
  let res := (s.reg reg2).rotateLeft n
  s.setShifted r (n != 0 && res.getLsbD 0) res

/-- ROTL imm5, reg2, reg3 (spec/43_data_manipulation.md R307). -/
def execRotlImm (imm5 : BitVec 5) (reg2 reg3 : Reg) (s : State) : Result := (s.rotate reg2 reg3 imm5.toNat).done 4

/-- ROTL reg1, reg2, reg3 (spec/43_data_manipulation.md R307). -/
def execRotl (reg1 reg2 reg3 : Reg) (s : State) : Result := (s.rotate reg2 reg3 (s.amount reg1)).done 4

/-- SAR reg1, reg2 (spec/43_data_manipulation.md R308). -/
def execSar (reg1 reg2 : Reg) (s : State) : Result := (s.shiftArith reg2 reg2 (s.amount reg1)).done 4

/-- SAR imm5, reg2 (spec/43_data_manipulation.md R308). -/
def execSarImm (imm5 : BitVec 5) (reg2 : Reg) (s : State) : Result := (s.shiftArith reg2 reg2 imm5.toNat).done 2

/-- SAR reg1, reg2, reg3 (spec/43_data_manipulation.md R308). -/
def execSar3 (reg1 reg2 reg3 : Reg) (s : State) : Result := (s.shiftArith reg2 reg3 (s.amount reg1)).done 4

/-- SHL reg1, reg2 (spec/43_data_manipulation.md R311). -/
def execShl (reg1 reg2 : Reg) (s : State) : Result := (s.shiftLeft reg2 reg2 (s.amount reg1)).done 4

/-- SHL imm5, reg2 (spec/43_data_manipulation.md R311). -/
def execShlImm (imm5 : BitVec 5) (reg2 : Reg) (s : State) : Result := (s.shiftLeft reg2 reg2 imm5.toNat).done 2

/-- SHL reg1, reg2, reg3 (spec/43_data_manipulation.md R311). -/
def execShl3 (reg1 reg2 reg3 : Reg) (s : State) : Result := (s.shiftLeft reg2 reg3 (s.amount reg1)).done 4

/-- SHR reg1, reg2 (spec/43_data_manipulation.md R312). -/
def execShr (reg1 reg2 : Reg) (s : State) : Result := (s.shiftRight reg2 reg2 (s.amount reg1)).done 4

/-- SHR imm5, reg2 (spec/43_data_manipulation.md R312). -/
def execShrImm (imm5 : BitVec 5) (reg2 : Reg) (s : State) : Result := (s.shiftRight reg2 reg2 imm5.toNat).done 2

/-- SHR reg1, reg2, reg3 (spec/43_data_manipulation.md R312). -/
def execShr3 (reg1 reg2 reg3 : Reg) (s : State) : Result := (s.shiftRight reg2 reg3 (s.amount reg1)).done 4

/-! ### Extensions -/

/-- SXB (spec/43_data_manipulation.md R313). -/
def execSxb (reg1 : Reg) (s : State) : Result :=
  (s.setReg reg1 (((s.reg reg1).setWidth 8).signExtend 32)).done 2

/-- SXH (spec/43_data_manipulation.md R314). -/
def execSxh (reg1 : Reg) (s : State) : Result :=
  (s.setReg reg1 (((s.reg reg1).setWidth 16).signExtend 32)).done 2

/-- ZXB (spec/43_data_manipulation.md R315). -/
def execZxb (reg1 : Reg) (s : State) : Result :=
  (s.setReg reg1 (((s.reg reg1).setWidth 8).setWidth 32)).done 2

/-- ZXH (spec/43_data_manipulation.md R316). -/
def execZxh (reg1 : Reg) (s : State) : Result :=
  (s.setReg reg1 (((s.reg reg1).setWidth 16).setWidth 32)).done 2

/-! ### Bit search -/

/-- How many of the bits below bit `n`, from bit `n - 1` down, are searched until one equal to `b` is found, that one
counted; 0 where there is none (spec/43_data_manipulation.md R317, R319). -/
def searchDown (w : Word) (b : Bool) : Nat → Nat
  | 0 => 0
  | n + 1 =>
    if w.getLsbD n = b then 1
    else
      match searchDown w b n with
      | 0 => 0
      | k + 1 => k + 2

/-- The same from bit `p` up, over `n` bits (spec/43_data_manipulation.md R318, R320). -/
def searchUp (w : Word) (b : Bool) (p : Nat) : Nat → Nat
  | 0 => 0
  | n + 1 =>
    if w.getLsbD p = b then 1
    else
      match searchUp w b (p + 1) n with
      | 0 => 0
      | k + 1 => k + 2

/-- Write the count of a search to `r`: CY where the last bit searched is the one, Z where there is none
(spec/43_data_manipulation.md R317 to R320). -/
def State.setSearch (s : State) (r : Reg) (k : Nat) : State :=
  (s.setReg r (BitVec.ofNat 32 k)).setFlags (k == 32) false false (k == 0)

/-- SCH0L (spec/43_data_manipulation.md R317). -/
def execSch0l (reg2 reg3 : Reg) (s : State) : Result := (s.setSearch reg3 (searchDown (s.reg reg2) false 32)).done 4

/-- SCH0R (spec/43_data_manipulation.md R318). -/
def execSch0r (reg2 reg3 : Reg) (s : State) : Result := (s.setSearch reg3 (searchUp (s.reg reg2) false 0 32)).done 4

/-- SCH1L (spec/43_data_manipulation.md R319). -/
def execSch1l (reg2 reg3 : Reg) (s : State) : Result := (s.setSearch reg3 (searchDown (s.reg reg2) true 32)).done 4

/-- SCH1R (spec/43_data_manipulation.md R320). -/
def execSch1r (reg2 reg3 : Reg) (s : State) : Result := (s.setSearch reg3 (searchUp (s.reg reg2) true 0 32)).done 4

end Sys2Proof.Machine
end

