-- ==== Sys2Proof/Machine/Divide.lean ====
section
/-!
DEFINITION. Divide and high-speed divide instructions (spec/44_divide.md).
-/
namespace Sys2Proof.Machine

open Sys2Proof

/-- The result of a division whose divisor is not 0. -/
structure Division where
  quotient : Word
  remainder : Word
  ov : Bool
deriving DecidableEq, Repr

/-- Signed division, truncated toward zero, the remainder with the dividend's sign; `none` where the divisor is 0.
80000000H / -1 overflows with quotient 80000000H and remainder 0 (spec/44_divide.md R330 (a), (d), (e)). -/
def divideSigned (a b : Word) : Option Division :=
  if b = 0 then none
  else some ⟨BitVec.ofInt 32 (a.toInt.tdiv b.toInt), BitVec.ofInt 32 (a.toInt.tmod b.toInt),
    a == 0x80000000#32 && b == 0xFFFFFFFF#32⟩

/-- Unsigned division; `none` where the divisor is 0 (spec/44_divide.md R330 (a), (d)). -/
def divideUnsigned (a b : Word) : Option Division :=
  if b = 0 then none
  else some ⟨BitVec.ofNat 32 (a.toNat / b.toNat), BitVec.ofNat 32 (a.toNat % b.toNat), false⟩

/-- The effect of a division with a remainder: the quotient to reg2, then the remainder to reg3, and OV, S, Z
(spec/44_divide.md R330). With the divisor 0 both results, S and Z are free and OV is 1 (d); where reg2 is reg3 it
takes the remainder, and OV, S and Z are free (f). -/
def State.setDivision (s : State) (reg2 reg3 : Reg) (d : Option Division) : State :=
  let r := match d with
    | some d => d.remainder
    | none => s.freeWord 0
  if reg2 = reg3 then
    ((s.setReg reg3 r).setOvSZ (s.freeBit 1) (s.freeBit 2) (s.freeBit 3)).useFree 4
  else
    match d with
    | some d =>
      ((s.setReg reg2 d.quotient).setReg reg3 r).setOvSZ d.ov d.quotient.msb (d.quotient == 0)
    | none =>
      (((s.setReg reg2 (s.freeWord 1)).setReg reg3 r).setOvSZ true (s.freeBit 2) (s.freeBit 3)).useFree 4

/-- The effect of a division without a remainder (spec/44_divide.md R330, R332 form (1)). -/
def State.setQuotient (s : State) (reg2 : Reg) (d : Option Division) : State :=
  match d with
  | some d => (s.setReg reg2 d.quotient).setOvSZ d.ov d.quotient.msb (d.quotient == 0)
  | none => ((s.setReg reg2 (s.freeWord 0)).setOvSZ true (s.freeBit 1) (s.freeBit 2)).useFree 3

/-- The lower halfword of a register, sign-extended (spec/44_divide.md R332). -/
def State.halfSigned (s : State) (r : Reg) : Word := ((s.reg r).setWidth 16).signExtend 32

/-- The lower halfword of a register, zero-extended (spec/44_divide.md R333). -/
def State.halfUnsigned (s : State) (r : Reg) : Word := ((s.reg r).setWidth 16).setWidth 32

/-- DIV (spec/44_divide.md R331). -/
def execDiv (reg1 reg2 reg3 : Reg) (s : State) : Result :=
  (s.setDivision reg2 reg3 (divideSigned (s.reg reg2) (s.reg reg1))).done 4

/-- DIVH reg1, reg2 (spec/44_divide.md R332). -/
def execDivh2 (reg1 reg2 : Reg) (s : State) : Result :=
  (s.setQuotient reg2 (divideSigned (s.reg reg2) (s.halfSigned reg1))).done 2

/-- DIVH reg1, reg2, reg3 (spec/44_divide.md R332). -/
def execDivh3 (reg1 reg2 reg3 : Reg) (s : State) : Result :=
  (s.setDivision reg2 reg3 (divideSigned (s.reg reg2) (s.halfSigned reg1))).done 4

/-- DIVHU (spec/44_divide.md R333). -/
def execDivhu (reg1 reg2 reg3 : Reg) (s : State) : Result :=
  (s.setDivision reg2 reg3 (divideUnsigned (s.reg reg2) (s.halfUnsigned reg1))).done 4

/-- DIVU (spec/44_divide.md R334). -/
def execDivu (reg1 reg2 reg3 : Reg) (s : State) : Result :=
  (s.setDivision reg2 reg3 (divideUnsigned (s.reg reg2) (s.reg reg1))).done 4

/-- DIVQ: as DIV (spec/44_divide.md R335). -/
def execDivq (reg1 reg2 reg3 : Reg) (s : State) : Result :=
  (s.setDivision reg2 reg3 (divideSigned (s.reg reg2) (s.reg reg1))).done 4

/-- DIVQU: as DIVU (spec/44_divide.md R336). -/
def execDivqu (reg1 reg2 reg3 : Reg) (s : State) : Result :=
  (s.setDivision reg2 reg3 (divideUnsigned (s.reg reg2) (s.reg reg1))).done 4

end Sys2Proof.Machine
end

