-- ==== Sys2Proof/Machine/LoadStore.lean ====
section
/-!
DEFINITION. Load and store instructions (spec/40_load_store.md).
-/
namespace Sys2Proof.Machine

open Sys2Proof

/-- The MEI row of a short load or store (spec/10_state.md R61). -/
def shortTag (reg : Reg) (ds : BitVec 2) (unsigned write : Bool) : AccessTag :=
  ⟨reg, ds, unsigned, 0b00000, write, false, false⟩

/-- The MEI row of a load or store with disp16 (spec/10_state.md R61). -/
def disp16Tag (reg : Reg) (ds : BitVec 2) (unsigned write : Bool) : AccessTag :=
  ⟨reg, ds, unsigned, 0b00001, write, false, false⟩

/-- The MEI row of a load or store with disp23 (spec/10_state.md R61). -/
def disp23Tag (reg : Reg) (ds : BitVec 2) (unsigned write : Bool) : AccessTag :=
  ⟨reg, ds, unsigned, 0b00010, write, false, false⟩

/-- LD.B disp16 (spec/40_load_store.md R201). -/
def execLdB16 (disp16 : BitVec 16) (reg1 reg2 : Reg) (s : State) : Result :=
  s.loadReg (disp16Tag reg2 0 false false) (s.addr16 reg1 disp16) 1 signByte reg2 4

/-- LD.B disp23 (spec/40_load_store.md R201). -/
def execLdB23 (disp23 : BitVec 23) (reg1 reg3 : Reg) (s : State) : Result :=
  s.loadReg (disp23Tag reg3 0 false false) (s.addr23 reg1 disp23) 1 signByte reg3 6

/-- LD.BU disp16 (spec/40_load_store.md R202). -/
def execLdBu16 (disp16 : BitVec 16) (reg1 reg2 : Reg) (s : State) : Result :=
  s.loadReg (disp16Tag reg2 0 true false) (s.addr16 reg1 disp16) 1 zeroByte reg2 4

/-- LD.BU disp23 (spec/40_load_store.md R202). -/
def execLdBu23 (disp23 : BitVec 23) (reg1 reg3 : Reg) (s : State) : Result :=
  s.loadReg (disp23Tag reg3 0 true false) (s.addr23 reg1 disp23) 1 zeroByte reg3 6

/-- LD.DW: two registers or neither; an odd reg3 is refused (spec/40_load_store.md R203). -/
def execLdDw (disp : BitVec 22) (reg1 reg3 : Reg) (s : State) : Result :=
  if reg3.getLsbD 0 then .refused .oddRegisterPair
  else
    (s.memRead (disp23Tag reg3 3 false false) s.psw.um (s.addr22 reg1 disp) 8).andThen fun v s =>
      ((s.setReg reg3 v.low).setReg (reg3 + 1) v.high).done 6

/-- LD.H disp16 (spec/40_load_store.md R204). -/
def execLdH16 (disp : BitVec 15) (reg1 reg2 : Reg) (s : State) : Result :=
  s.loadReg (disp16Tag reg2 1 false false) (s.addr15 reg1 disp) 2 signHalf reg2 4

/-- LD.H disp23 (spec/40_load_store.md R204). -/
def execLdH23 (disp : BitVec 22) (reg1 reg3 : Reg) (s : State) : Result :=
  s.loadReg (disp23Tag reg3 1 false false) (s.addr22 reg1 disp) 2 signHalf reg3 6

/-- LD.HU disp16 (spec/40_load_store.md R205). -/
def execLdHu16 (disp : BitVec 15) (reg1 reg2 : Reg) (s : State) : Result :=
  s.loadReg (disp16Tag reg2 1 true false) (s.addr15 reg1 disp) 2 zeroHalf reg2 4

/-- LD.HU disp23 (spec/40_load_store.md R205). -/
def execLdHu23 (disp : BitVec 22) (reg1 reg3 : Reg) (s : State) : Result :=
  s.loadReg (disp23Tag reg3 1 true false) (s.addr22 reg1 disp) 2 zeroHalf reg3 6

/-- LD.W disp16 (spec/40_load_store.md R206). -/
def execLdW16 (disp : BitVec 15) (reg1 reg2 : Reg) (s : State) : Result :=
  s.loadReg (disp16Tag reg2 2 false false) (s.addr15 reg1 disp) 4 Dword.low reg2 4

/-- LD.W disp23 (spec/40_load_store.md R206). -/
def execLdW23 (disp : BitVec 22) (reg1 reg3 : Reg) (s : State) : Result :=
  s.loadReg (disp23Tag reg3 2 false false) (s.addr22 reg1 disp) 4 Dword.low reg3 6

/-- SLD.B (spec/40_load_store.md R207). -/
def execSldB (disp : BitVec 7) (reg2 : Reg) (s : State) : Result :=
  s.loadReg (shortTag reg2 0 false false) (s.addrEp disp) 1 signByte reg2 2

/-- SLD.BU (spec/40_load_store.md R208). -/
def execSldBu (disp : BitVec 4) (reg2 : Reg) (s : State) : Result :=
  s.loadReg (shortTag reg2 0 true false) (s.addrEp disp) 1 zeroByte reg2 2

/-- SLD.H (spec/40_load_store.md R209). -/
def execSldH (disp : BitVec 7) (reg2 : Reg) (s : State) : Result :=
  s.loadReg (shortTag reg2 1 false false) (s.addrEp (disp ++ 0#1)) 2 signHalf reg2 2

/-- SLD.HU (spec/40_load_store.md R210). -/
def execSldHu (disp : BitVec 4) (reg2 : Reg) (s : State) : Result :=
  s.loadReg (shortTag reg2 1 true false) (s.addrEp (disp ++ 0#1)) 2 zeroHalf reg2 2

/-- SLD.W (spec/40_load_store.md R211). -/
def execSldW (disp : BitVec 6) (reg2 : Reg) (s : State) : Result :=
  s.loadReg (shortTag reg2 2 false false) (s.addrEp (disp ++ 0#2)) 4 Dword.low reg2 2

/-- ST.B disp16 (spec/40_load_store.md R212). -/
def execStB16 (disp16 : BitVec 16) (reg1 reg2 : Reg) (s : State) : Result :=
  s.storeReg (disp16Tag reg2 0 false true) (s.addr16 reg1 disp16) 1 reg2 4

/-- ST.B disp23 (spec/40_load_store.md R212). -/
def execStB23 (disp23 : BitVec 23) (reg1 reg3 : Reg) (s : State) : Result :=
  s.storeReg (disp23Tag reg3 0 false true) (s.addr23 reg1 disp23) 1 reg3 6

/-- ST.DW: the word of reg3 below that of reg3 + 1; an odd reg3 is refused (spec/40_load_store.md R213). -/
def execStDw (disp : BitVec 22) (reg1 reg3 : Reg) (s : State) : Result :=
  if reg3.getLsbD 0 then .refused .oddRegisterPair
  else
    (s.memWrite (disp23Tag reg3 3 false true) (s.addr22 reg1 disp) 8 (s.reg (reg3 + 1) ++ s.reg reg3)).andThen
      fun _ s => s.done 6

/-- ST.H disp16 (spec/40_load_store.md R214). -/
def execStH16 (disp : BitVec 15) (reg1 reg2 : Reg) (s : State) : Result :=
  s.storeReg (disp16Tag reg2 1 false true) (s.addr15 reg1 disp) 2 reg2 4

/-- ST.H disp23 (spec/40_load_store.md R214). -/
def execStH23 (disp : BitVec 22) (reg1 reg3 : Reg) (s : State) : Result :=
  s.storeReg (disp23Tag reg3 1 false true) (s.addr22 reg1 disp) 2 reg3 6

/-- ST.W disp16 (spec/40_load_store.md R215). -/
def execStW16 (disp : BitVec 15) (reg1 reg2 : Reg) (s : State) : Result :=
  s.storeReg (disp16Tag reg2 2 false true) (s.addr15 reg1 disp) 4 reg2 4

/-- ST.W disp23 (spec/40_load_store.md R215). -/
def execStW23 (disp : BitVec 22) (reg1 reg3 : Reg) (s : State) : Result :=
  s.storeReg (disp23Tag reg3 2 false true) (s.addr22 reg1 disp) 4 reg3 6

/-- SST.B (spec/40_load_store.md R216). -/
def execSstB (disp : BitVec 7) (reg2 : Reg) (s : State) : Result :=
  s.storeReg (shortTag reg2 0 false true) (s.addrEp disp) 1 reg2 2

/-- SST.H (spec/40_load_store.md R217). -/
def execSstH (disp : BitVec 7) (reg2 : Reg) (s : State) : Result :=
  s.storeReg (shortTag reg2 1 false true) (s.addrEp (disp ++ 0#1)) 2 reg2 2

/-- SST.W (spec/40_load_store.md R218). -/
def execSstW (disp : BitVec 6) (reg2 : Reg) (s : State) : Result :=
  s.storeReg (shortTag reg2 2 false true) (s.addrEp (disp ++ 0#2)) 4 reg2 2

end Sys2Proof.Machine
end

