-- ==== Sys2Proof/Machine/SatLogic.lean ====
section
/-!
DEFINITION. Saturated operation and logical instructions (spec/42_saturated_logical.md).
-/
namespace Sys2Proof.Machine

open Sys2Proof

/-- Write the saturated result to `r`, and the flags (spec/42_saturated_logical.md R280). -/
def State.setSaturated (s : State) (r : Reg) (x : Arith) : State := (s.setReg r x.saturated).setSatFlags x

/-- Write a logical result to `r`, and the flags (spec/42_saturated_logical.md R285). -/
def State.setLogic (s : State) (r : Reg) (v : Word) : State := (s.setReg r v).setLogicFlags v

/-- SATADD reg1, reg2 (spec/42_saturated_logical.md R281). -/
def execSatadd (reg1 reg2 : Reg) (s : State) : Result :=
  (s.setSaturated reg2 (add32 (s.reg reg2) (s.reg reg1) false)).done 2

/-- SATADD imm5, reg2 (spec/42_saturated_logical.md R281). -/
def execSataddImm (imm5 : BitVec 5) (reg2 : Reg) (s : State) : Result :=
  (s.setSaturated reg2 (add32 (s.reg reg2) (imm5.signExtend 32) false)).done 2

/-- SATADD reg1, reg2, reg3 (spec/42_saturated_logical.md R281). -/
def execSatadd3 (reg1 reg2 reg3 : Reg) (s : State) : Result :=
  (s.setSaturated reg3 (add32 (s.reg reg2) (s.reg reg1) false)).done 4

/-- SATSUB reg1, reg2 (spec/42_saturated_logical.md R282). -/
def execSatsub (reg1 reg2 : Reg) (s : State) : Result :=
  (s.setSaturated reg2 (sub32 (s.reg reg2) (s.reg reg1) false)).done 2

/-- SATSUB reg1, reg2, reg3 (spec/42_saturated_logical.md R282). -/
def execSatsub3 (reg1 reg2 reg3 : Reg) (s : State) : Result :=
  (s.setSaturated reg3 (sub32 (s.reg reg2) (s.reg reg1) false)).done 4

/-- SATSUBI (spec/42_saturated_logical.md R283). -/
def execSatsubi (imm16 : BitVec 16) (reg1 reg2 : Reg) (s : State) : Result :=
  (s.setSaturated reg2 (sub32 (s.reg reg1) (imm16.signExtend 32) false)).done 4

/-- SATSUBR (spec/42_saturated_logical.md R284). -/
def execSatsubr (reg1 reg2 : Reg) (s : State) : Result :=
  (s.setSaturated reg2 (sub32 (s.reg reg1) (s.reg reg2) false)).done 2

/-- AND (spec/42_saturated_logical.md R286). -/
def execAndReg (reg1 reg2 : Reg) (s : State) : Result := (s.setLogic reg2 (s.reg reg2 &&& s.reg reg1)).done 2

/-- ANDI (spec/42_saturated_logical.md R287). -/
def execAndi (imm16 : BitVec 16) (reg1 reg2 : Reg) (s : State) : Result :=
  (s.setLogic reg2 (s.reg reg1 &&& imm16.setWidth 32)).done 4

/-- NOT (spec/42_saturated_logical.md R288). -/
def execNotReg (reg1 reg2 : Reg) (s : State) : Result := (s.setLogic reg2 (~~~(s.reg reg1))).done 2

/-- OR (spec/42_saturated_logical.md R289). -/
def execOrReg (reg1 reg2 : Reg) (s : State) : Result := (s.setLogic reg2 (s.reg reg2 ||| s.reg reg1)).done 2

/-- ORI (spec/42_saturated_logical.md R290). -/
def execOri (imm16 : BitVec 16) (reg1 reg2 : Reg) (s : State) : Result :=
  (s.setLogic reg2 (s.reg reg1 ||| imm16.setWidth 32)).done 4

/-- TST: the flags only (spec/42_saturated_logical.md R291). -/
def execTst (reg1 reg2 : Reg) (s : State) : Result := (s.setLogicFlags (s.reg reg2 &&& s.reg reg1)).done 2

/-- XOR (spec/42_saturated_logical.md R292). -/
def execXorReg (reg1 reg2 : Reg) (s : State) : Result := (s.setLogic reg2 (s.reg reg2 ^^^ s.reg reg1)).done 2

/-- XORI (spec/42_saturated_logical.md R293). -/
def execXori (imm16 : BitVec 16) (reg1 reg2 : Reg) (s : State) : Result :=
  (s.setLogic reg2 (s.reg reg1 ^^^ imm16.setWidth 32)).done 4

end Sys2Proof.Machine
end

