-- ==== Sys2Proof/Machine/SysReg.lean ====
section
/-!
DEFINITION. The system registers as LDSR and STSR see them: their numbers, permissions, values, and which bits a write
reaches (spec/10_state.md R30 to R82).
-/
namespace Sys2Proof.Machine

open Sys2Proof

/-- The three registers of a protection area. -/
inductive AreaReg where
  | mpla | mpua | mpat
deriving DecidableEq, Repr

/-- The system registers this core defines (spec/10_state.md R31). -/
inductive SysReg where
  | eipc | eipsw | fepc | fepsw | psw | eiic | feic | ctpc | ctpsw | ctbp | eiwr | fewr | bsel
  | mcfg0 | rbase | ebase | intbp | mctl | pid | sccfg | scbp
  | htcfg0 | mea | asid | mei | ispr | pmr | icsr | intcfg
  | mpm | mprc | mpbrgn | mptrgn | mcr
  /-- MPLAn, MPUAn or MPATn. -/
  | area (k : AreaReg) (n : BitVec 4)
deriving DecidableEq, Repr

/-- The registers of the areas: register 4k + j of group 6 or 7 (spec/10_state.md R82). -/
def areaRegOf (upper : BitVec 1) (regID : BitVec 5) : Option SysReg :=
  let n := upper ++ regID.extractLsb' 2 3
  match regID.extractLsb' 0 2 with
  | 0#2 => some (.area .mpla n)
  | 1#2 => some (.area .mpua n)
  | 2#2 => some (.area .mpat n)
  | _ => none

/-- The register of a register number and a group number (spec/10_state.md R31); `none` is an undefined register. -/
def sysRegOf (regID selID : BitVec 5) : Option SysReg :=
  match selID with
  | 0#5 =>
    match regID with
    | 0#5 => some .eipc
    | 1#5 => some .eipsw
    | 2#5 => some .fepc
    | 3#5 => some .fepsw
    | 5#5 => some .psw
    | 13#5 => some .eiic
    | 14#5 => some .feic
    | 16#5 => some .ctpc
    | 17#5 => some .ctpsw
    | 20#5 => some .ctbp
    | 28#5 => some .eiwr
    | 29#5 => some .fewr
    | 31#5 => some .bsel
    | _ => none
  | 1#5 =>
    match regID with
    | 0#5 => some .mcfg0
    | 2#5 => some .rbase
    | 3#5 => some .ebase
    | 4#5 => some .intbp
    | 5#5 => some .mctl
    | 6#5 => some .pid
    | 11#5 => some .sccfg
    | 12#5 => some .scbp
    | _ => none
  | 2#5 =>
    match regID with
    | 0#5 => some .htcfg0
    | 6#5 => some .mea
    | 7#5 => some .asid
    | 8#5 => some .mei
    | 10#5 => some .ispr
    | 11#5 => some .pmr
    | 12#5 => some .icsr
    | 13#5 => some .intcfg
    | _ => none
  | 5#5 =>
    match regID with
    | 0#5 => some .mpm
    | 1#5 => some .mprc
    | 4#5 => some .mpbrgn
    | 5#5 => some .mptrgn
    | 11#5 => some .mcr
    | _ => none
  | 6#5 => areaRegOf 0 regID
  | 7#5 => areaRegOf 1 regID
  | _ => none

/-- Access permission UM; every other register, an undefined one too, has SV (spec/10_state.md R33, R34). -/
def SysReg.userAccess : SysReg → Bool
  | .psw => true
  | .ctpc => true
  | .ctpsw => true
  | .ctbp => true
  | _ => false

/-- The register is accessible on this product (spec/10_state.md R34, spec/92_eei_decisions.md D4). -/
def Product.hasSysReg (p : Product) : SysReg → Bool
  | .mpm => p.hasMpu
  | .mprc => p.hasMpu
  | .mpbrgn => p.hasMpu
  | .mptrgn => p.hasMpu
  | .mcr => p.hasMpu
  | .area _ n => p.hasMpu && decide (n ≤ p.lastArea)
  | _ => true

/-- The accessible register of a register number and a group number. -/
def State.sysRegAt (s : State) (regID selID : BitVec 5) : Option SysReg :=
  (sysRegOf regID selID).filter (Product.hasSysReg s.product)

/-- The access needs SV permission (spec/10_state.md R33, R34). -/
def needsSupervisor (r : Option SysReg) : Bool :=
  match r with
  | some r => !r.userAccess
  | none => true

/-- The seven numbers whose writing is prohibited (spec/10_state.md R35). -/
def writeProhibited (regID selID : BitVec 5) : Bool :=
  [(10#5, 1#5), (13, 1), (14, 1), (15, 1), (16, 1), (5, 2), (20, 5)].contains (regID, selID)

/-! ### Reading -/

/-- The enable bits of areas, the first at bit `k` (spec/10_state.md R75). -/
def enableBits : List Area → Nat → Word
  | [], _ => 0
  | a :: rest, k => (BitVec.ofBool (a.mpat.getLsbD 7)).setWidth 32 <<< k ||| enableBits rest (k + 1)

/-- A request stands whose priority PMR masks: ICSR.PMEI (spec/10_state.md R72). -/
def State.maskedRequest (s : State) : Bool := s.eiintRequests.any (fun r => s.sys.pmr.getLsbD r.priority.toNat)

/-- A register of area `n`. -/
def Area.get (a : Area) : AreaReg → Word
  | .mpla => a.mpla
  | .mpua => a.mpua
  | .mpat => a.mpat

/-- Area `n`. -/
def State.area (s : State) (n : BitVec 4) : Area := s.areas[n.toNat]'n.isLt

/-- The value of a system register (spec/10_state.md R40 to R82). -/
def State.readSys (s : State) : SysReg → Word
  | .eipc => s.sys.eipc
  | .eipsw => s.sys.eipsw
  | .fepc => s.sys.fepc
  | .fepsw => s.sys.fepsw
  | .psw => s.psw.toWord
  | .eiic => s.sys.eiic
  | .feic => s.sys.feic
  | .ctpc => s.sys.ctpc
  | .ctpsw => s.sys.ctpsw
  | .ctbp => s.sys.ctbp
  | .eiwr => s.sys.eiwr
  | .fewr => s.sys.fewr
  | .bsel => 0
  | .mcfg0 => s.sys.mcfg0
  | .rbase => Product.rbaseWord s.product
  | .ebase => s.sys.ebase
  | .intbp => s.sys.intbp
  | .mctl => s.sys.mctl
  | .pid => s.product.archId ++ 0#15 ++ BitVec.ofBool s.product.hasMpu ++ s.product.versionId
  | .sccfg => s.sys.sccfg
  | .scbp => s.sys.scbp
  | .htcfg0 => 0#13 ++ s.product.peid ++ 0x8000#16
  | .mea => s.sys.mea
  | .asid => s.sys.asid
  | .mei => s.sys.mei
  | .ispr => s.sys.ispr
  | .pmr => s.sys.pmr
  | .icsr => (BitVec.ofBool s.maskedRequest).setWidth 32
  | .intcfg => s.sys.intcfg
  | .mpm => s.sys.mpm
  | .mprc => enableBits s.areasInUse 0
  | .mpbrgn => 0
  | .mptrgn => s.product.lastArea.setWidth 32
  | .mcr => 0x0000003F
  | .area k n => (s.area n).get k

/-! ### Writing -/

/-- `old` with the bits of `mask` taken from `new` (spec/10_state.md R36). -/
def mixBits (mask old new : Word) : Word := (old &&& ~~~mask) ||| (new &&& mask)

/-- The bits of EIPSW and FEPSW that are R/W (spec/10_state.md R41). -/
def savedPswMask : Word := 0x40078EFF

/-- The bits of MCFG0 that are R/W: the low bits of SPID (spec/10_state.md R68). -/
def Product.mcfg0Mask (p : Product) : Word := 0#8 ++ (0xFF#8 >>> (7 - p.spidWidth.val)) ++ 0#16

/-- The bits of MCTL that are R/W: MA and UIC (spec/10_state.md R69, spec/20_memory.md R104). -/
def Product.mctlMask (p : Product) : Word := if p.maWritable then 3 else 1

/-- The bits of MPM that are R/W (spec/10_state.md R74). -/
def Product.mpmMask (p : Product) : Word := if p.svpWritable then 0x703 else 0x701

/-- The bits of MPAT that are R/W (spec/10_state.md R81). -/
def Product.mpatMask (p : Product) : Word := if p.svpWritable && p.mpatSWritable then 0x03FF00FF else 0x03FF00C7

/-- The bits of a register of an area that are R/W (spec/10_state.md R79 to R81). -/
def Product.areaMask (p : Product) : AreaReg → Word
  | .mpla => 0xFFFFFFFC
  | .mpua => 0xFFFFFFFC
  | .mpat => Product.mpatMask p

/-- Write a register of an area. -/
def Area.put (a : Area) (k : AreaReg) (v : Word) : Area :=
  match k with
  | .mpla => { a with mpla := v }
  | .mpua => { a with mpua := v }
  | .mpat => { a with mpat := v }

/-- Replace area `n`. -/
def State.setArea (s : State) (n : BitVec 4) (a : Area) : State := { s with areas := s.areas.set n.toNat a n.isLt }

/-- Write MPRC: bit n is MPATn.E of an area the product has; the others are dropped (spec/10_state.md R75). -/
def State.writeMprc (s : State) (v : Word) : State :=
  { s with
    areas := Vector.ofFn fun i =>
      let a := s.areas[i.val]'i.isLt
      if i.val ≤ s.product.lastArea.toNat then
        { a with mpat := mixBits 0x80 a.mpat ((BitVec.ofBool (v.getLsbD i.val)).setWidth 32 <<< 7) }
      else a }

/-- Write PSW by LDSR: every field but Debug in supervisor mode, the five flags in user mode (spec/10_state.md R45). -/
def State.writePsw (s : State) (v : Word) : State :=
  { s with psw := if s.psw.um then s.psw.loadFlags v else s.psw.loadWord v }

/-- Write `v` into the bits of a system register that are R/W (spec/10_state.md R36, R40 to R82); a register without
such bits is not changed. ISPR is R/W only with INTCFG.ISPC = 1 (R70). -/
def State.writeSys (s : State) (r : SysReg) (v : Word) : State :=
  let y := s.sys
  match r with
  | .eipc => { s with sys := { y with eipc := v } }
  | .eipsw => { s with sys := { y with eipsw := mixBits savedPswMask y.eipsw v } }
  | .fepc => { s with sys := { y with fepc := v } }
  | .fepsw => { s with sys := { y with fepsw := mixBits savedPswMask y.fepsw v } }
  | .psw => s.writePsw v
  | .eiic => { s with sys := { y with eiic := v } }
  | .feic => { s with sys := { y with feic := v } }
  | .ctpc => { s with sys := { y with ctpc := v } }
  | .ctpsw => { s with sys := { y with ctpsw := mixBits 0x1F y.ctpsw v } }
  | .ctbp => { s with sys := { y with ctbp := mixBits 0xFFFFFFFE y.ctbp v } }
  | .eiwr => { s with sys := { y with eiwr := v } }
  | .fewr => { s with sys := { y with fewr := v } }
  | .bsel => s
  | .mcfg0 => { s with sys := { y with mcfg0 := mixBits (Product.mcfg0Mask s.product) y.mcfg0 v } }
  | .rbase => s
  | .ebase => { s with sys := { y with ebase := mixBits 0xFFFFFE01 y.ebase v } }
  | .intbp => { s with sys := { y with intbp := mixBits 0xFFFFFE00 y.intbp v } }
  | .mctl => { s with sys := { y with mctl := mixBits (Product.mctlMask s.product) y.mctl v } }
  | .pid => s
  | .sccfg => { s with sys := { y with sccfg := mixBits 0xFF y.sccfg v } }
  | .scbp => { s with sys := { y with scbp := mixBits 0xFFFFFFFC y.scbp v } }
  | .htcfg0 => s
  | .mea => { s with sys := { y with mea := v } }
  | .asid => { s with sys := { y with asid := mixBits 0x3FF y.asid v } }
  | .mei => { s with sys := { y with mei := mixBits 0x001F073F y.mei v } }
  | .ispr => if y.intcfg.getLsbD 0 then { s with sys := { y with ispr := mixBits 0xFF y.ispr v } } else s
  | .pmr => { s with sys := { y with pmr := mixBits 0xFF y.pmr v } }
  | .icsr => s
  | .intcfg => { s with sys := { y with intcfg := mixBits 1 y.intcfg v } }
  | .mpm => { s with sys := { y with mpm := mixBits (Product.mpmMask s.product) y.mpm v } }
  | .mprc => s.writeMprc v
  | .mpbrgn => s
  | .mptrgn => s
  | .mcr => s
  | .area k n => s.setArea n ((s.area n).put k (mixBits (Product.areaMask s.product k) ((s.area n).get k) v))

end Sys2Proof.Machine
end

