-- ==== Sys2Proof/Machine/Special.lean ====
section
/-!
DEFINITION. Special instructions: table calls and jumps, compare and exchange, stack frames, returns, software
exceptions, run control, system registers, synchronization and cache instructions (spec/47_special.md).
-/
namespace Sys2Proof.Machine

open Sys2Proof

/-! ### Table calls, table jump, compare and exchange -/

/-- CALLT: the table is read before CTPC and CTPSW are written (spec/47_special.md R365). -/
def execCallt (imm6 : BitVec 6) (s : State) : Result :=
  (s.memRead ⟨0, 1, true, 0b10001, false, false, false⟩ s.psw.um (s.sys.ctbp + (imm6 ++ 0#1).setWidth 32) 2).andThen
    fun v s =>
      .next ({ s with sys := { s.sys with ctpc := s.pc + 2, ctpsw := s.psw.flagsWord } }.setPc
        (s.sys.ctbp + zeroHalf v))

/-- CTRET (spec/47_special.md R368). -/
def execCtret (s : State) : Result := .next ({ s with psw := s.psw.loadFlags s.sys.ctpsw }.setPc s.sys.ctpc)

/-- SWITCH (spec/47_special.md R387). -/
def execSwitch (reg1 : Reg) (s : State) : Result :=
  (s.memRead ⟨0, 1, false, 0b10000, false, false, false⟩ s.psw.um (s.pc + 2 + (s.reg reg1 <<< 1)) 2).andThen
    fun v s => .next (s.setPc (s.pc + 2 + (signHalf v <<< 1)))

/-- CAXI: both kinds of access are checked before the read, and a write is always made (spec/47_special.md R366). -/
def execCaxi (reg1 reg2 reg3 : Reg) (s : State) : Result :=
  (s.memModify ⟨reg3, 2, true, 0b01000, false, false, true⟩ (s.reg reg1) 4
    (fun v => if (sub32 (s.reg reg2) v.low false).res = 0 then (s.reg reg3).setWidth 64 else v)).andThen
    fun v t => ((t.setReg reg3 v.low).setArithFlags (sub32 (s.reg reg2) v.low false)).done 4

/-- LDL.W: as LD.W; no link is set (spec/47_special.md R381). -/
def execLdlW (reg1 reg3 : Reg) (s : State) : Result :=
  s.loadReg ⟨reg3, 2, false, 0b00111, false, false, false⟩ (s.reg reg1) 4 Dword.low reg3 4

/-- STC.W: as ST.W; it always stores and writes no register (spec/47_special.md R392). -/
def execStcW (reg1 reg3 : Reg) (s : State) : Result :=
  s.storeReg ⟨reg3, 2, false, 0b00111, true, false, false⟩ (s.reg reg1) 4 reg3 4

/-! ### Stack frames -/

/-- The MEI row of PREPARE and DISPOSE (spec/10_state.md R61). -/
def frameTag (write : Bool) : AccessTag := ⟨0, 2, true, 0b01100, write, true, false⟩

/-- The MEI row of PUSHSP and POPSP (spec/10_state.md R61). -/
def stackTag (write : Bool) : AccessTag := ⟨0, 2, true, 0b01101, write, true, false⟩

/-- `imm5` of PREPARE and DISPOSE in bytes (spec/47_special.md R373). -/
def frameBytes (imm5 : BitVec 5) : Word := (imm5 ++ 0#2).setWidth 32

/-- PREPARE but for ep: the stores, then sp (spec/47_special.md R373). -/
def State.prepareFrame (s : State) (imm5 : BitVec 5) (list12 : BitVec 12) : Access Unit :=
  (s.storeBlock (frameTag true) (s.reg sp) (listRegs list12)).bind fun tmp s =>
    .done () (s.setReg sp (tmp - frameBytes imm5))

/-- PREPARE list12, imm5 (spec/47_special.md R373). -/
def execPrepare (imm5 : BitVec 5) (list12 : BitVec 12) (s : State) : Result :=
  (s.prepareFrame imm5 list12).andThen fun _ s => s.done 4

/-- PREPARE list12, imm5, sp: ep takes the new sp (spec/47_special.md R373). -/
def execPrepareSp (imm5 : BitVec 5) (list12 : BitVec 12) (s : State) : Result :=
  (s.prepareFrame imm5 list12).andThen fun _ s => (s.setReg ep (s.reg sp)).done 4

/-- PREPARE list12, imm5, imm16, sign-extended to ep (spec/47_special.md R373). -/
def execPrepareImmLo (imm5 : BitVec 5) (list12 : BitVec 12) (imm16 : BitVec 16) (s : State) : Result :=
  (s.prepareFrame imm5 list12).andThen fun _ s => (s.setReg ep (imm16.signExtend 32)).done 6

/-- PREPARE list12, imm5, imm16, to the upper halfword of ep (spec/47_special.md R373). -/
def execPrepareImmHi (imm5 : BitVec 5) (list12 : BitVec 12) (imm16 : BitVec 16) (s : State) : Result :=
  (s.prepareFrame imm5 list12).andThen fun _ s => (s.setReg ep (imm16 ++ 0#16)).done 6

/-- PREPARE list12, imm5, imm32 (spec/47_special.md R373). -/
def execPrepareImm32 (imm5 : BitVec 5) (list12 : BitVec 12) (imm32 : BitVec 32) (s : State) : Result :=
  (s.prepareFrame imm5 list12).andThen fun _ s => (s.setReg ep imm32).done 8

/-- The loads of DISPOSE, in descending order; the answer is the new sp (spec/47_special.md R370). -/
def State.disposeFrame (s : State) (imm5 : BitVec 5) (list12 : BitVec 12) : Access Word :=
  s.loadBlock (frameTag false) (s.reg sp + frameBytes imm5) (listRegs list12).reverse

/-- DISPOSE imm5, list12 (spec/47_special.md R370). -/
def execDispose (imm5 : BitVec 5) (list12 : BitVec 12) (s : State) : Result :=
  (s.disposeFrame imm5 list12).andThen fun tmp s => (s.setReg sp tmp).done 4

/-- DISPOSE imm5, list12, [reg1]: reg1 is read after the loads and before sp is written (spec/47_special.md R370). -/
def execDisposeJmp (imm5 : BitVec 5) (list12 : BitVec 12) (reg1 : Reg) (s : State) : Result :=
  (s.disposeFrame imm5 list12).andThen fun tmp s => .next ((s.setReg sp tmp).setPc (s.reg reg1))

/-- PUSHSP; nothing where rh is above rt (spec/47_special.md R374). -/
def execPushsp (rh rt : Reg) (s : State) : Result :=
  (s.storeBlock (stackTag true) (s.reg sp) (rangeRegs rh rt)).andThen fun tmp s => (s.setReg sp tmp).done 4

/-- POPSP; nothing where rh is above rt (spec/47_special.md R372). -/
def execPopsp (rh rt : Reg) (s : State) : Result :=
  (s.loadBlock (stackTag false) (s.reg sp) (rangeRegs rh rt).reverse).andThen fun tmp s => (s.setReg sp tmp).done 4

/-! ### Interrupt enable, returns, software exceptions -/

/-- DI and EI run in user mode only where MCTL.UIC is 1 (spec/47_special.md R369, R376). -/
def State.setId (s : State) (id : Bool) : Result :=
  if s.psw.um && !s.sys.mctl.getLsbD 0 then .next (s.raise .pie)
  else { s with psw := { s.psw with id := id } }.done 4

/-- DI (spec/47_special.md R369). -/
def execDi (s : State) : Result := s.setId true

/-- EI (spec/47_special.md R376). -/
def execEi (s : State) : Result := s.setId false

/-- EIRET (spec/47_special.md R377). -/
def execEiret (s : State) : Result := s.privileged fun s => .next s.returnEi

/-- FERET (spec/47_special.md R378). -/
def execFeret (s : State) : Result := s.privileged fun s => .next s.returnFe

/-- FETRAP (spec/47_special.md R379). -/
def execFetrap (vector4 : BitVec 4) (s : State) : Result := .next (s.takeException (.fetrap vector4) (s.pc + 2))

/-- TRAP (spec/47_special.md R388). -/
def execTrap (vector5 : BitVec 5) (s : State) : Result := .next (s.takeException (.trap vector5) (s.pc + 4))

/-- RIE, 16-bit form (spec/47_special.md R383). -/
def execRie (s : State) : Result := .next (s.raise .rie)

/-- RIE imm5, imm4: the immediates have no effect (spec/47_special.md R383). -/
def execRieImm (_imm5 : BitVec 5) (_imm4 : BitVec 4) (s : State) : Result := .next (s.raise .rie)

/-- CLL: a reserved instruction on this core (spec/47_special.md R367). -/
def execCll (s : State) : Result := .next (s.raise .rie)

/-- The entry of the SYSCALL table: entry 0 where the vector is above SCCFG.SIZE (spec/47_special.md R397). -/
def State.syscallEntry (s : State) (vector8 : BitVec 8) : Word :=
  let idx := if vector8 ≤ s.sys.sccfg.extractLsb' 0 8 then vector8 else 0
  s.sys.scbp + (idx ++ 0#2).setWidth 32

/-- SYSCALL: the table is read in supervisor mode before the exception is taken (spec/47_special.md R397). -/
def execSyscall (vector8 : BitVec 8) (s : State) : Result :=
  (s.memRead ⟨0, 2, true, 0b10010, false, false, false⟩ false (s.syscallEntry vector8) 4).andThen
    fun v s => .next (s.takeExceptionAt (.syscall vector8) (s.pc + 4) (s.sys.scbp + v.low))

/-! ### Run control -/

/-- HALT (spec/47_special.md R380). -/
def execHalt (s : State) : Result := s.privileged fun s => { s with run := .halted }.done 4

/-- SNOOZE (spec/47_special.md R384). -/
def execSnooze (s : State) : Result := { s with run := .snoozing s.product.snoozePeriod }.done 4

/-- NOP (spec/47_special.md R382). -/
def execNop (s : State) : Result := s.done 2

/-! ### System registers -/

/-- LDSR: the privilege check, then the prohibited numbers, then the write; a write to an undefined register is ignored
(spec/47_special.md R385, spec/10_state.md R33 to R37). -/
def execLdsr (reg2 : Reg) (regID selID : BitVec 5) (s : State) : Result :=
  let r := s.sysRegAt regID selID
  if s.psw.um && needsSupervisor r then .next (s.raise .pie)
  else if writeProhibited regID selID then .refused .prohibitedSystemRegister
  else
    match r with
    | some r => (s.writeSys r (s.reg reg2)).done 4
    | none => s.done 4

/-- STSR: the privilege check, then the read; an undefined register reads a free value (spec/47_special.md R386,
spec/10_state.md R33, R34). -/
def execStsr (regID : BitVec 5) (reg2 : Reg) (selID : BitVec 5) (s : State) : Result :=
  let r := s.sysRegAt regID selID
  if s.psw.um && needsSupervisor r then .next (s.raise .pie)
  else
    match r with
    | some r => (s.setReg reg2 (s.readSys r)).done 4
    | none => ((s.setReg reg2 (s.freeWord 0)).useFree 1).done 4

/-! ### Synchronization and cache instructions -/

/-- SYNCE: no FPU, no effect (spec/47_special.md R393). -/
def execSynce (s : State) : Result := s.done 2

/-- SYNCI: the bytes that were stored and read back are what the fetch sees from now on (spec/47_special.md R394,
spec/20_memory.md R142). -/
def execSynci (s : State) : Result := { s with stale := s.stale.filter (fun e => !e.loaded) }.done 2

/-- SYNCM: nothing one core can see (spec/47_special.md R395, spec/20_memory.md R141). -/
def execSyncm (s : State) : Result := s.done 2

/-- SYNCP: nothing one core can see (spec/47_special.md R396, spec/20_memory.md R140). -/
def execSyncp (s : State) : Result := s.done 2

/-- CACHE: as NOP (spec/47_special.md R398). -/
def execCache (_cacheop : BitVec 7) (_reg1 : Reg) (s : State) : Result := s.done 4

/-- PREF: as NOP (spec/47_special.md R399). -/
def execPref (_prefop : BitVec 5) (_reg1 : Reg) (s : State) : Result := s.done 4

end Sys2Proof.Machine
end

