-- ==== Sys2Proof/Machine/Dispatch.lean ====
section
/-!
DEFINITION. The meaning of every instruction: one arm per constructor of `Instr`, each one call of its own definition.
-/
namespace Sys2Proof.Machine

open Sys2Proof

/-- The effect of an instruction on a state (spec/60_exceptions.md R400 steps 5 to 8). -/
def exec (i : Instr) (s : State) : Host.Outcome State Fault Refusal :=
  match i with
  | .ldB16 disp16 reg1 reg2 => Sys2Proof.Machine.execLdB16 disp16 reg1 reg2 s
  | .ldB23 disp23 reg1 reg3 => Sys2Proof.Machine.execLdB23 disp23 reg1 reg3 s
  | .ldBu16 disp16 reg1 reg2 => Sys2Proof.Machine.execLdBu16 disp16 reg1 reg2 s
  | .ldBu23 disp23 reg1 reg3 => Sys2Proof.Machine.execLdBu23 disp23 reg1 reg3 s
  | .ldDw disp reg1 reg3 => Sys2Proof.Machine.execLdDw disp reg1 reg3 s
  | .ldH16 disp reg1 reg2 => Sys2Proof.Machine.execLdH16 disp reg1 reg2 s
  | .ldH23 disp reg1 reg3 => Sys2Proof.Machine.execLdH23 disp reg1 reg3 s
  | .ldHu16 disp reg1 reg2 => Sys2Proof.Machine.execLdHu16 disp reg1 reg2 s
  | .ldHu23 disp reg1 reg3 => Sys2Proof.Machine.execLdHu23 disp reg1 reg3 s
  | .ldW16 disp reg1 reg2 => Sys2Proof.Machine.execLdW16 disp reg1 reg2 s
  | .ldW23 disp reg1 reg3 => Sys2Proof.Machine.execLdW23 disp reg1 reg3 s
  | .sldB disp reg2 => Sys2Proof.Machine.execSldB disp reg2 s
  | .sldBu disp reg2 => Sys2Proof.Machine.execSldBu disp reg2 s
  | .sldH disp reg2 => Sys2Proof.Machine.execSldH disp reg2 s
  | .sldHu disp reg2 => Sys2Proof.Machine.execSldHu disp reg2 s
  | .sldW disp reg2 => Sys2Proof.Machine.execSldW disp reg2 s
  | .stB16 disp16 reg1 reg2 => Sys2Proof.Machine.execStB16 disp16 reg1 reg2 s
  | .stB23 disp23 reg1 reg3 => Sys2Proof.Machine.execStB23 disp23 reg1 reg3 s
  | .stDw disp reg1 reg3 => Sys2Proof.Machine.execStDw disp reg1 reg3 s
  | .stH16 disp reg1 reg2 => Sys2Proof.Machine.execStH16 disp reg1 reg2 s
  | .stH23 disp reg1 reg3 => Sys2Proof.Machine.execStH23 disp reg1 reg3 s
  | .stW16 disp reg1 reg2 => Sys2Proof.Machine.execStW16 disp reg1 reg2 s
  | .stW23 disp reg1 reg3 => Sys2Proof.Machine.execStW23 disp reg1 reg3 s
  | .sstB disp reg2 => Sys2Proof.Machine.execSstB disp reg2 s
  | .sstH disp reg2 => Sys2Proof.Machine.execSstH disp reg2 s
  | .sstW disp reg2 => Sys2Proof.Machine.execSstW disp reg2 s
  | .mul reg1 reg2 reg3 => Sys2Proof.Machine.execMul reg1 reg2 reg3 s
  | .mulImm imm9 reg2 reg3 => Sys2Proof.Machine.execMulImm imm9 reg2 reg3 s
  | .mulh reg1 reg2 => Sys2Proof.Machine.execMulh reg1 reg2 s
  | .mulhImm imm5 reg2 => Sys2Proof.Machine.execMulhImm imm5 reg2 s
  | .mulhi imm16 reg1 reg2 => Sys2Proof.Machine.execMulhi imm16 reg1 reg2 s
  | .mulu reg1 reg2 reg3 => Sys2Proof.Machine.execMulu reg1 reg2 reg3 s
  | .muluImm imm9 reg2 reg3 => Sys2Proof.Machine.execMuluImm imm9 reg2 reg3 s
  | .mac reg1 reg2 reg3 reg4 => Sys2Proof.Machine.execMac reg1 reg2 reg3 reg4 s
  | .macu reg1 reg2 reg3 reg4 => Sys2Proof.Machine.execMacu reg1 reg2 reg3 reg4 s
  | .addReg reg1 reg2 => Sys2Proof.Machine.execAddReg reg1 reg2 s
  | .addImm imm5 reg2 => Sys2Proof.Machine.execAddImm imm5 reg2 s
  | .addi imm16 reg1 reg2 => Sys2Proof.Machine.execAddi imm16 reg1 reg2 s
  | .cmpReg reg1 reg2 => Sys2Proof.Machine.execCmpReg reg1 reg2 s
  | .cmpImm imm5 reg2 => Sys2Proof.Machine.execCmpImm imm5 reg2 s
  | .movReg reg1 reg2 => Sys2Proof.Machine.execMovReg reg1 reg2 s
  | .movImm5 imm5 reg2 => Sys2Proof.Machine.execMovImm5 imm5 reg2 s
  | .movImm32 imm32 reg1 => Sys2Proof.Machine.execMovImm32 imm32 reg1 s
  | .movea imm16 reg1 reg2 => Sys2Proof.Machine.execMovea imm16 reg1 reg2 s
  | .movhi imm16 reg1 reg2 => Sys2Proof.Machine.execMovhi imm16 reg1 reg2 s
  | .sub reg1 reg2 => Sys2Proof.Machine.execSub reg1 reg2 s
  | .subr reg1 reg2 => Sys2Proof.Machine.execSubr reg1 reg2 s
  | .adf cond reg1 reg2 reg3 => Sys2Proof.Machine.execAdf cond reg1 reg2 reg3 s
  | .sbf cond reg1 reg2 reg3 => Sys2Proof.Machine.execSbf cond reg1 reg2 reg3 s
  | .satadd reg1 reg2 => Sys2Proof.Machine.execSatadd reg1 reg2 s
  | .sataddImm imm5 reg2 => Sys2Proof.Machine.execSataddImm imm5 reg2 s
  | .satadd3 reg1 reg2 reg3 => Sys2Proof.Machine.execSatadd3 reg1 reg2 reg3 s
  | .satsub reg1 reg2 => Sys2Proof.Machine.execSatsub reg1 reg2 s
  | .satsub3 reg1 reg2 reg3 => Sys2Proof.Machine.execSatsub3 reg1 reg2 reg3 s
  | .satsubi imm16 reg1 reg2 => Sys2Proof.Machine.execSatsubi imm16 reg1 reg2 s
  | .satsubr reg1 reg2 => Sys2Proof.Machine.execSatsubr reg1 reg2 s
  | .andReg reg1 reg2 => Sys2Proof.Machine.execAndReg reg1 reg2 s
  | .andi imm16 reg1 reg2 => Sys2Proof.Machine.execAndi imm16 reg1 reg2 s
  | .notReg reg1 reg2 => Sys2Proof.Machine.execNotReg reg1 reg2 s
  | .orReg reg1 reg2 => Sys2Proof.Machine.execOrReg reg1 reg2 s
  | .ori imm16 reg1 reg2 => Sys2Proof.Machine.execOri imm16 reg1 reg2 s
  | .tst reg1 reg2 => Sys2Proof.Machine.execTst reg1 reg2 s
  | .xorReg reg1 reg2 => Sys2Proof.Machine.execXorReg reg1 reg2 s
  | .xori imm16 reg1 reg2 => Sys2Proof.Machine.execXori imm16 reg1 reg2 s
  | .binsHh reg1 msb lsb reg2 => Sys2Proof.Machine.execBinsHh reg1 msb lsb reg2 s
  | .binsHl reg1 msb lsb reg2 => Sys2Proof.Machine.execBinsHl reg1 msb lsb reg2 s
  | .binsLl reg1 msb lsb reg2 => Sys2Proof.Machine.execBinsLl reg1 msb lsb reg2 s
  | .bsh reg2 reg3 => Sys2Proof.Machine.execBsh reg2 reg3 s
  | .bsw reg2 reg3 => Sys2Proof.Machine.execBsw reg2 reg3 s
  | .cmov cond reg1 reg2 reg3 => Sys2Proof.Machine.execCmov cond reg1 reg2 reg3 s
  | .cmovImm cond imm5 reg2 reg3 => Sys2Proof.Machine.execCmovImm cond imm5 reg2 reg3 s
  | .hsh reg2 reg3 => Sys2Proof.Machine.execHsh reg2 reg3 s
  | .hsw reg2 reg3 => Sys2Proof.Machine.execHsw reg2 reg3 s
  | .rotlImm imm5 reg2 reg3 => Sys2Proof.Machine.execRotlImm imm5 reg2 reg3 s
  | .rotl reg1 reg2 reg3 => Sys2Proof.Machine.execRotl reg1 reg2 reg3 s
  | .sar reg1 reg2 => Sys2Proof.Machine.execSar reg1 reg2 s
  | .sarImm imm5 reg2 => Sys2Proof.Machine.execSarImm imm5 reg2 s
  | .sar3 reg1 reg2 reg3 => Sys2Proof.Machine.execSar3 reg1 reg2 reg3 s
  | .sasf cond reg2 => Sys2Proof.Machine.execSasf cond reg2 s
  | .setf cond reg2 => Sys2Proof.Machine.execSetf cond reg2 s
  | .shl reg1 reg2 => Sys2Proof.Machine.execShl reg1 reg2 s
  | .shlImm imm5 reg2 => Sys2Proof.Machine.execShlImm imm5 reg2 s
  | .shl3 reg1 reg2 reg3 => Sys2Proof.Machine.execShl3 reg1 reg2 reg3 s
  | .shr reg1 reg2 => Sys2Proof.Machine.execShr reg1 reg2 s
  | .shrImm imm5 reg2 => Sys2Proof.Machine.execShrImm imm5 reg2 s
  | .shr3 reg1 reg2 reg3 => Sys2Proof.Machine.execShr3 reg1 reg2 reg3 s
  | .sxb reg1 => Sys2Proof.Machine.execSxb reg1 s
  | .sxh reg1 => Sys2Proof.Machine.execSxh reg1 s
  | .zxb reg1 => Sys2Proof.Machine.execZxb reg1 s
  | .zxh reg1 => Sys2Proof.Machine.execZxh reg1 s
  | .sch0l reg2 reg3 => Sys2Proof.Machine.execSch0l reg2 reg3 s
  | .sch0r reg2 reg3 => Sys2Proof.Machine.execSch0r reg2 reg3 s
  | .sch1l reg2 reg3 => Sys2Proof.Machine.execSch1l reg2 reg3 s
  | .sch1r reg2 reg3 => Sys2Proof.Machine.execSch1r reg2 reg3 s
  | .div reg1 reg2 reg3 => Sys2Proof.Machine.execDiv reg1 reg2 reg3 s
  | .divh2 reg1 reg2 => Sys2Proof.Machine.execDivh2 reg1 reg2 s
  | .divh3 reg1 reg2 reg3 => Sys2Proof.Machine.execDivh3 reg1 reg2 reg3 s
  | .divhu reg1 reg2 reg3 => Sys2Proof.Machine.execDivhu reg1 reg2 reg3 s
  | .divu reg1 reg2 reg3 => Sys2Proof.Machine.execDivu reg1 reg2 reg3 s
  | .divq reg1 reg2 reg3 => Sys2Proof.Machine.execDivq reg1 reg2 reg3 s
  | .divqu reg1 reg2 reg3 => Sys2Proof.Machine.execDivqu reg1 reg2 reg3 s
  | .bcond9 cond disp => Sys2Proof.Machine.execBcond9 cond disp s
  | .bcond17 cond disp => Sys2Proof.Machine.execBcond17 cond disp s
  | .jarl22 disp reg2 => Sys2Proof.Machine.execJarl22 disp reg2 s
  | .jarl32 disp reg1 => Sys2Proof.Machine.execJarl32 disp reg1 s
  | .jarlReg reg1 reg3 => Sys2Proof.Machine.execJarlReg reg1 reg3 s
  | .jmpReg reg1 => Sys2Proof.Machine.execJmpReg reg1 s
  | .jmp32 disp reg1 => Sys2Proof.Machine.execJmp32 disp reg1 s
  | .jr22 disp => Sys2Proof.Machine.execJr22 disp s
  | .jr32 disp => Sys2Proof.Machine.execJr32 disp s
  | .loop reg1 disp => Sys2Proof.Machine.execLoop reg1 disp s
  | .clr1 bit3 disp16 reg1 => Sys2Proof.Machine.execClr1 bit3 disp16 reg1 s
  | .clr1Reg reg1 reg2 => Sys2Proof.Machine.execClr1Reg reg1 reg2 s
  | .not1 bit3 disp16 reg1 => Sys2Proof.Machine.execNot1 bit3 disp16 reg1 s
  | .not1Reg reg1 reg2 => Sys2Proof.Machine.execNot1Reg reg1 reg2 s
  | .set1 bit3 disp16 reg1 => Sys2Proof.Machine.execSet1 bit3 disp16 reg1 s
  | .set1Reg reg1 reg2 => Sys2Proof.Machine.execSet1Reg reg1 reg2 s
  | .tst1 bit3 disp16 reg1 => Sys2Proof.Machine.execTst1 bit3 disp16 reg1 s
  | .tst1Reg reg1 reg2 => Sys2Proof.Machine.execTst1Reg reg1 reg2 s
  | .callt imm6 => Sys2Proof.Machine.execCallt imm6 s
  | .caxi reg1 reg2 reg3 => Sys2Proof.Machine.execCaxi reg1 reg2 reg3 s
  | .cll => Sys2Proof.Machine.execCll s
  | .ctret => Sys2Proof.Machine.execCtret s
  | .di => Sys2Proof.Machine.execDi s
  | .dispose imm5 list12 => Sys2Proof.Machine.execDispose imm5 list12 s
  | .disposeJmp imm5 list12 reg1 => Sys2Proof.Machine.execDisposeJmp imm5 list12 reg1 s
  | .ei => Sys2Proof.Machine.execEi s
  | .eiret => Sys2Proof.Machine.execEiret s
  | .feret => Sys2Proof.Machine.execFeret s
  | .fetrap vector4 => Sys2Proof.Machine.execFetrap vector4 s
  | .halt => Sys2Proof.Machine.execHalt s
  | .ldlW reg1 reg3 => Sys2Proof.Machine.execLdlW reg1 reg3 s
  | .ldsr reg2 regID selID => Sys2Proof.Machine.execLdsr reg2 regID selID s
  | .nop => Sys2Proof.Machine.execNop s
  | .popsp rh rt => Sys2Proof.Machine.execPopsp rh rt s
  | .prepare imm5 list12 => Sys2Proof.Machine.execPrepare imm5 list12 s
  | .prepareSp imm5 list12 => Sys2Proof.Machine.execPrepareSp imm5 list12 s
  | .prepareImmLo imm5 list12 imm16 => Sys2Proof.Machine.execPrepareImmLo imm5 list12 imm16 s
  | .prepareImmHi imm5 list12 imm16 => Sys2Proof.Machine.execPrepareImmHi imm5 list12 imm16 s
  | .prepareImm32 imm5 list12 imm32 => Sys2Proof.Machine.execPrepareImm32 imm5 list12 imm32 s
  | .pushsp rh rt => Sys2Proof.Machine.execPushsp rh rt s
  | .rie => Sys2Proof.Machine.execRie s
  | .rieImm imm5 imm4 => Sys2Proof.Machine.execRieImm imm5 imm4 s
  | .snooze => Sys2Proof.Machine.execSnooze s
  | .stcW reg1 reg3 => Sys2Proof.Machine.execStcW reg1 reg3 s
  | .stsr regID reg2 selID => Sys2Proof.Machine.execStsr regID reg2 selID s
  | .switch reg1 => Sys2Proof.Machine.execSwitch reg1 s
  | .synce => Sys2Proof.Machine.execSynce s
  | .synci => Sys2Proof.Machine.execSynci s
  | .syncm => Sys2Proof.Machine.execSyncm s
  | .syncp => Sys2Proof.Machine.execSyncp s
  | .syscall vector8 => Sys2Proof.Machine.execSyscall vector8 s
  | .trap vector5 => Sys2Proof.Machine.execTrap vector5 s
  | .cache cacheop reg1 => Sys2Proof.Machine.execCache cacheop reg1 s
  | .pref prefop reg1 => Sys2Proof.Machine.execPref prefop reg1 s

end Sys2Proof.Machine
end

