-- ==== Sys2Proof/WellFormed.lean ====
section
/-!
DEFINITION. Which terms of `Instr` the encoding can hold: the constraints of the rows of spec/opcode_table.json, which
are the patterns spec/30_encoding.md R177 gives to another instruction and R178 prohibits. (An odd reg3 of LD.DW and
ST.DW is well formed here: it is a row of the table, and its meaning refuses it.)
-/
namespace Sys2Proof

/-- The operand constraints of the row of each instruction (spec/30_encoding.md R177, R178). -/
def Instr.wellFormed : Instr → Bool
  | .ldB16 _ _ _ => true
  | .ldB23 _ _ _ => true
  | .ldBu16 _ _ reg2 => reg2 != 0
  | .ldBu23 _ _ _ => true
  | .ldDw _ _ _ => true
  | .ldH16 _ _ _ => true
  | .ldH23 _ _ _ => true
  | .ldHu16 _ _ reg2 => reg2 != 0
  | .ldHu23 _ _ _ => true
  | .ldW16 _ _ _ => true
  | .ldW23 _ _ _ => true
  | .sldB _ _ => true
  | .sldBu _ reg2 => reg2 != 0
  | .sldH _ _ => true
  | .sldHu _ reg2 => reg2 != 0
  | .sldW _ _ => true
  | .stB16 _ _ _ => true
  | .stB23 _ _ _ => true
  | .stDw _ _ _ => true
  | .stH16 _ _ _ => true
  | .stH23 _ _ _ => true
  | .stW16 _ _ _ => true
  | .stW23 _ _ _ => true
  | .sstB _ _ => true
  | .sstH _ _ => true
  | .sstW _ _ => true
  | .mul _ _ _ => true
  | .mulImm _ _ _ => true
  | .mulh _ reg2 => reg2 != 0
  | .mulhImm _ reg2 => reg2 != 0
  | .mulhi _ _ reg2 => reg2 != 0
  | .mulu _ _ _ => true
  | .muluImm _ _ _ => true
  | .mac _ _ _ _ => true
  | .macu _ _ _ _ => true
  | .addReg _ _ => true
  | .addImm _ _ => true
  | .addi _ _ _ => true
  | .cmpReg _ _ => true
  | .cmpImm _ _ => true
  | .movReg _ reg2 => reg2 != 0
  | .movImm5 _ reg2 => reg2 != 0
  | .movImm32 _ _ => true
  | .movea _ _ reg2 => reg2 != 0
  | .movhi _ _ reg2 => reg2 != 0
  | .sub _ _ => true
  | .subr _ _ => true
  | .adf cond _ _ _ => cond != .sa
  | .sbf cond _ _ _ => cond != .sa
  | .satadd _ reg2 => reg2 != 0
  | .sataddImm _ reg2 => reg2 != 0
  | .satadd3 _ _ _ => true
  | .satsub _ reg2 => reg2 != 0
  | .satsub3 _ _ _ => true
  | .satsubi _ _ reg2 => reg2 != 0
  | .satsubr _ reg2 => reg2 != 0
  | .andReg _ _ => true
  | .andi _ _ _ => true
  | .notReg _ _ => true
  | .orReg _ _ => true
  | .ori _ _ _ => true
  | .tst _ _ => true
  | .xorReg _ _ => true
  | .xori _ _ _ => true
  | .binsHh _ _ _ _ => true
  | .binsHl _ _ _ _ => true
  | .binsLl _ _ _ _ => true
  | .bsh _ _ => true
  | .bsw _ _ => true
  | .cmov _ _ _ _ => true
  | .cmovImm _ _ _ _ => true
  | .hsh _ _ => true
  | .hsw _ _ => true
  | .rotlImm _ _ _ => true
  | .rotl _ _ _ => true
  | .sar _ _ => true
  | .sarImm _ _ => true
  | .sar3 _ _ _ => true
  | .sasf _ _ => true
  | .setf _ _ => true
  | .shl _ _ => true
  | .shlImm _ _ => true
  | .shl3 _ _ _ => true
  | .shr _ _ => true
  | .shrImm _ _ => true
  | .shr3 _ _ _ => true
  | .sxb _ => true
  | .sxh _ => true
  | .zxb _ => true
  | .zxh _ => true
  | .sch0l _ _ => true
  | .sch0r _ _ => true
  | .sch1l _ _ => true
  | .sch1r _ _ => true
  | .div _ _ _ => true
  | .divh2 reg1 reg2 => reg1 != 0 && reg2 != 0
  | .divh3 _ _ _ => true
  | .divhu _ _ _ => true
  | .divu _ _ _ => true
  | .divq _ _ _ => true
  | .divqu _ _ _ => true
  | .bcond9 _ _ => true
  | .bcond17 cond _ => cond != .t
  | .jarl22 _ reg2 => reg2 != 0
  | .jarl32 _ reg1 => reg1 != 0
  | .jarlReg _ reg3 => reg3 != 0
  | .jmpReg _ => true
  | .jmp32 _ _ => true
  | .jr22 _ => true
  | .jr32 _ => true
  | .loop reg1 _ => reg1 != 0
  | .clr1 _ _ _ => true
  | .clr1Reg _ _ => true
  | .not1 _ _ _ => true
  | .not1Reg _ _ => true
  | .set1 _ _ _ => true
  | .set1Reg _ _ => true
  | .tst1 _ _ _ => true
  | .tst1Reg _ _ => true
  | .callt _ => true
  | .caxi _ _ _ => true
  | .cll => true
  | .ctret => true
  | .di => true
  | .dispose _ _ => true
  | .disposeJmp _ _ reg1 => reg1 != 0
  | .ei => true
  | .eiret => true
  | .feret => true
  | .fetrap vector4 => vector4 != 0
  | .halt => true
  | .ldlW _ _ => true
  | .ldsr _ _ _ => true
  | .nop => true
  | .popsp _ _ => true
  | .prepare _ _ => true
  | .prepareSp _ _ => true
  | .prepareImmLo _ _ _ => true
  | .prepareImmHi _ _ _ => true
  | .prepareImm32 _ _ _ => true
  | .pushsp _ _ => true
  | .rie => true
  | .rieImm _ _ => true
  | .snooze => true
  | .stcW _ _ => true
  | .stsr _ _ _ => true
  | .switch reg1 => reg1 != 0
  | .synce => true
  | .synci => true
  | .syncm => true
  | .syncp => true
  | .syscall _ => true
  | .trap _ => true
  | .cache cacheop reg1 => !(cacheop == 0b1111110#7 && reg1 == 31#5)
  | .pref _ _ => true

end Sys2Proof
end

