-- ==== Sys2Proof/Decode.lean ====
section
/-!
DEFINITION. Decoding: from the bytes of the instruction stream to an instruction, total on any bytes, rejecting by name
(spec/30_encoding.md R160 to R186); and after it the encoder, written from the same rows of spec/opcode_table.json.
-/
namespace Sys2Proof

/-- The condition of a 4-bit code (spec/30_encoding.md R172). -/
def Cond.ofBits (b : BitVec 4) : Cond :=
  match b with
  | 0b0000#4 => .v
  | 0b0001#4 => .c
  | 0b0010#4 => .z
  | 0b0011#4 => .nh
  | 0b0100#4 => .s
  | 0b0101#4 => .t
  | 0b0110#4 => .lt
  | 0b0111#4 => .le
  | 0b1000#4 => .nv
  | 0b1001#4 => .nc
  | 0b1010#4 => .nz
  | 0b1011#4 => .h
  | 0b1100#4 => .ns
  | 0b1101#4 => .sa
  | 0b1110#4 => .ge
  | _ => .gt

/-- Why bits are no instruction. -/
inductive DecodeError where
  /-- No row of the table and no prohibited pattern: the step raises the reserved instruction exception
  (spec/30_encoding.md R179). -/
  | undefined
  /-- Bcond disp17 with cccc = 0101 (R178 (b)). -/
  | prohibitedBranchAlways17
  /-- LOOP with reg1 = r0 (R178 (c)). -/
  | prohibitedLoopR0
  /-- DIVH reg1, reg2 with reg1 = r0 and reg2 = r16 to r31 (R178 (d)). -/
  | prohibitedDivhR0
  /-- JARL [reg1], reg3 with reg3 = r0 (R178 (e)). -/
  | prohibitedJarlR0
  /-- Fewer bytes than the instruction has. -/
  | truncated
deriving DecidableEq, Repr

/-! ### The fields of a halfword (spec/30_encoding.md R162) -/

/-- The major opcode `h[10:5]`. -/
def fieldOp (h : Half) : BitVec 6 := h.extractLsb' 5 6

/-- The 4-bit major opcode `h[10:7]` of Formats III and IV. -/
def fieldOp4 (h : Half) : BitVec 4 := h.extractLsb' 7 4

/-- The reg1 field, bits 4 to 0; of the second halfword, bits 20 to 16. -/
def fieldLow (h : Half) : BitVec 5 := h.extractLsb' 0 5

/-- The reg2 field, bits 15 to 11; of the second halfword the reg3 field, bits 31 to 27. -/
def fieldHigh (h : Half) : BitVec 5 := h.extractLsb' 11 5

/-- Bits 3 to 0: the condition code of Formats III and VII. -/
def fieldLow4 (h : Half) : BitVec 4 := h.extractLsb' 0 4

/-- The sub-opcode, bits 26 to 16, of the second halfword. -/
def fieldSub (h2 : Half) : BitVec 11 := h2.extractLsb' 0 11

/-- Bit 16: the lowest bit of the second halfword. -/
def bit16 (h2 : Half) : Bool := h2.getLsbD 0

/-- The upper 15 bits of the second halfword: a displacement whose lowest bit is not encoded (R165). -/
def field15 (h2 : Half) : BitVec 15 := h2.extractLsb' 1 15

/-- `list12` of PREPARE and DISPOSE: instruction bits 31 to 21 above bit 0 (spec/47_special.md R371). -/
def fieldList (h1 h2 : Half) : BitVec 12 := h2.extractLsb' 5 11 ++ h1.extractLsb' 0 1

/-- `imm5` of PREPARE and DISPOSE: bits 5 to 1. -/
def fieldImm5 (h1 : Half) : BitVec 5 := h1.extractLsb' 1 5

/-- `disp23` of the byte forms: bits 47 to 32 above bits 26 to 20. -/
def fieldDisp23 (h2 h3 : Half) : BitVec 23 := h3 ++ h2.extractLsb' 4 7

/-- `disp23` without its bit 0, of the other forms: bits 47 to 32 above bits 26 to 21. -/
def fieldDisp22 (h2 h3 : Half) : BitVec 22 := h3 ++ h2.extractLsb' 5 6

/-- `disp32` without its bit 0: bits 47 to 32 above bits 31 to 17. -/
def fieldDisp31 (h2 h3 : Half) : BitVec 31 := h3 ++ field15 h2

/-- `disp22` without its bit 0: bits 5 to 0 above bits 31 to 17. -/
def fieldDisp21 (h1 h2 : Half) : BitVec 21 := h1.extractLsb' 0 6 ++ field15 h2

/-- `imm9` of MUL and MULU: bits 21 to 18 above bits 4 to 0. -/
def fieldImm9 (h1 h2 : Half) : BitVec 9 := h2.extractLsb' 2 4 ++ fieldLow h1

/-- The low four bits of `lsb` of BINS: bit 27 above bits 19 to 17 (spec/43_data_manipulation.md R301). -/
def fieldBinsLsb (h2 : Half) : BitVec 4 := h2.extractLsb' 11 1 ++ h2.extractLsb' 1 3

/-- The low four bits of `msb` of BINS, bits 31 to 28; of MAC and MACU, bits 4 to 1 of reg3's number. -/
def fieldTop4 (h2 : Half) : BitVec 4 := h2.extractLsb' 12 4

/-- The condition code of Formats XI and XII, bits 20 to 17; of MAC and MACU, bits 4 to 1 of reg4's number. -/
def fieldCond (h2 : Half) : BitVec 4 := h2.extractLsb' 1 4

/-! ### Length -/

/-- The length in bytes of the instruction whose first two halfwords are `h1` and `h2` (spec/30_encoding.md R161). -/
def instrLength (h1 h2 : Half) : Nat :=
  let r2 := fieldHigh h1
  if h1.extractLsb' 9 2 != 0b11#2 then
    if fieldOp h1 == 0b010111#6 && r2 == 0 then 6 else 2
  else if fieldOp h1 == 0b110001#6 && r2 == 0 then 6
  else if fieldOp h1 == 0b110111#6 && r2 == 0 && !bit16 h2 then 6
  else if h1.extractLsb' 6 5 == 0b11110#5 && r2 == 0 && bit16 h2 then
    if fieldLow h2 == 0b00001#5 then 4
    else if h2.extractLsb' 0 3 == 0b011#3 then
      match h2.extractLsb' 3 2 with
      | 0b00#2 => 4
      | 0b11#2 => 8
      | _ => 6
    else 6
  else 4

/-! ### Decoding -/

/-- `i` where `b` holds, else an undefined pattern: a required digit of the row (spec/30_encoding.md R184). -/
def requireBits (b : Bool) (i : Instr) : Except DecodeError Instr := if b then .ok i else .error .undefined

/-- The instructions that share the sub-opcode 00101100000, selected by bits 15 to 11 (spec/30_encoding.md R184).
CLL is tested before CACHE. -/
def decodeSystem (h1 h2 : Half) : Except DecodeError Instr :=
  let r1 := fieldLow h1
  let w := fieldHigh h2
  match fieldHigh h1 with
  | 0b00000#5 => requireBits (w == 0 && r1 == 0) .di
  | 0b10000#5 => requireBits (w == 0 && r1 == 0) .ei
  | 0b01000#5 => .ok (.pushsp r1 w)
  | 0b01100#5 => .ok (.popsp r1 w)
  | 0b11000#5 => if w == 0 then .error .prohibitedJarlR0 else .ok (.jarlReg r1 w)
  | 0b11010#5 => requireBits (h2.extractLsb' 14 2 == 0b00#2) (.syscall (h2.extractLsb' 11 3 ++ r1))
  | 0b11011#5 => .ok (.pref w r1)
  | _ =>
    if h1.extractLsb' 13 3 == 0b111#3 then
      if h1 == 0xFFFF#16 && w == 0b11110#5 then .ok .cll
      else .ok (.cache (h1.extractLsb' 11 2 ++ w) r1)
    else .error .undefined

/-- The extended instructions whose sub-opcode holds no operand (spec/30_encoding.md R184). -/
def decodeExtendedFixed (h1 h2 : Half) : Except DecodeError Instr :=
  let r1 := fieldLow h1
  let r2 := fieldHigh h1
  let w := fieldHigh h2
  match fieldSub h2 with
  | 0b00000000000#11 =>
    if h1.getLsbD 4 then requireBits (w == 0) (.rieImm r2 (fieldLow4 h1))
    else requireBits (w == 0) (.setf (Cond.ofBits (fieldLow4 h1)) r2)
  | 0b00000100000#11 => .ok (.ldsr r1 r2 w)
  | 0b00001000000#11 => .ok (.stsr r1 r2 w)
  | 0b00010000000#11 => requireBits (w == 0) (.shr r1 r2)
  | 0b00010000010#11 => .ok (.shr3 r1 r2 w)
  | 0b00010100000#11 => requireBits (w == 0) (.sar r1 r2)
  | 0b00010100010#11 => .ok (.sar3 r1 r2 w)
  | 0b00011000000#11 => requireBits (w == 0) (.shl r1 r2)
  | 0b00011000010#11 => .ok (.shl3 r1 r2 w)
  | 0b00011000100#11 => .ok (.rotlImm r1 r2 w)
  | 0b00011000110#11 => .ok (.rotl r1 r2 w)
  | 0b00011100000#11 => requireBits (w == 0) (.set1Reg r1 r2)
  | 0b00011100010#11 => requireBits (w == 0) (.not1Reg r1 r2)
  | 0b00011100100#11 => requireBits (w == 0) (.clr1Reg r1 r2)
  | 0b00011100110#11 => requireBits (w == 0) (.tst1Reg r1 r2)
  | 0b00011101110#11 => .ok (.caxi r1 r2 w)
  | 0b00100000000#11 => requireBits (w == 0 && r2 == 0) (.trap r1)
  | 0b00100100000#11 =>
    if r2 == 0b00001#5 then requireBits (w == 0 && r1 == 0) .snooze
    else requireBits (w == 0 && r2 == 0 && r1 == 0) .halt
  | 0b00101000100#11 => requireBits (w == 0 && r2 == 0 && r1 == 0) .ctret
  | 0b00101001000#11 => requireBits (w == 0 && r2 == 0 && r1 == 0) .eiret
  | 0b00101001010#11 => requireBits (w == 0 && r2 == 0 && r1 == 0) .feret
  | 0b00101100000#11 => decodeSystem h1 h2
  | 0b01000000000#11 => requireBits (w == 0 && !h1.getLsbD 4) (.sasf (Cond.ofBits (fieldLow4 h1)) r2)
  | 0b01000100000#11 => .ok (.mul r1 r2 w)
  | 0b01000100010#11 => .ok (.mulu r1 r2 w)
  | 0b01010000000#11 => .ok (.divh3 r1 r2 w)
  | 0b01010000010#11 => .ok (.divhu r1 r2 w)
  | 0b01011000000#11 => .ok (.div r1 r2 w)
  | 0b01011000010#11 => .ok (.divu r1 r2 w)
  | 0b01011111100#11 => .ok (.divq r1 r2 w)
  | 0b01011111110#11 => .ok (.divqu r1 r2 w)
  | 0b01101000000#11 => requireBits (r1 == 0) (.bsw r2 w)
  | 0b01101000010#11 => requireBits (r1 == 0) (.bsh r2 w)
  | 0b01101000100#11 => requireBits (r1 == 0) (.hsw r2 w)
  | 0b01101000110#11 => requireBits (r1 == 0) (.hsh r2 w)
  | 0b01101100000#11 => requireBits (r1 == 0) (.sch0r r2 w)
  | 0b01101100010#11 => requireBits (r1 == 0) (.sch1r r2 w)
  | 0b01101100100#11 => requireBits (r1 == 0) (.sch0l r2 w)
  | 0b01101100110#11 => requireBits (r1 == 0) (.sch1l r2 w)
  | 0b01101111000#11 => requireBits (r2 == 0) (.ldlW r1 w)
  | 0b01101111010#11 => requireBits (r2 == 0) (.stcW r1 w)
  | _ => .error .undefined

/-- The extended instructions, `h1[10:5]` = 111111 and bit 16 = 0 (spec/30_encoding.md R184): first the rows whose
sub-opcode holds an operand, by its fixed bits; then the others. SBF and ADF with cccc = 1101 are SATSUB and SATADD. -/
def decodeExtended (h1 h2 : Half) : Except DecodeError Instr :=
  let r1 := fieldLow h1
  let r2 := fieldHigh h1
  let w := fieldHigh h2
  let cccc := fieldCond h2
  match h2.extractLsb' 5 6 with
  | 0b010010#6 | 0b010011#6 =>
    if h2.getLsbD 1 then .ok (.muluImm (fieldImm9 h1 h2) r2 w) else .ok (.mulImm (fieldImm9 h1 h2) r2 w)
  | 0b011000#6 => .ok (.cmovImm (Cond.ofBits cccc) r1 r2 w)
  | 0b011001#6 => .ok (.cmov (Cond.ofBits cccc) r1 r2 w)
  | 0b011100#6 => if cccc == 0b1101#4 then .ok (.satsub3 r1 r2 w) else .ok (.sbf (Cond.ofBits cccc) r1 r2 w)
  | 0b011101#6 => if cccc == 0b1101#4 then .ok (.satadd3 r1 r2 w) else .ok (.adf (Cond.ofBits cccc) r1 r2 w)
  | 0b011110#6 => requireBits (!h2.getLsbD 11) (.mac r1 r2 (fieldTop4 h2) cccc)
  | 0b011111#6 => requireBits (!h2.getLsbD 11) (.macu r1 r2 (fieldTop4 h2) cccc)
  | _ =>
    match h2.extractLsb' 4 7 with
    | 0b0001001#7 => .ok (.binsHh r1 (fieldTop4 h2) (fieldBinsLsb h2) r2)
    | 0b0001011#7 => .ok (.binsHl r1 (fieldTop4 h2) (fieldBinsLsb h2) r2)
    | 0b0001101#7 => .ok (.binsLl r1 (fieldTop4 h2) (fieldBinsLsb h2) r2)
    | _ => decodeExtendedFixed h1 h2

/-- The major opcode 111111 (spec/30_encoding.md R183). -/
def decode111111 (h1 h2 : Half) : Except DecodeError Instr :=
  if bit16 h2 then
    if fieldHigh h1 == 0 then
      if fieldLow4 h1 == 0b0101#4 then .error .prohibitedBranchAlways17
      else .ok (.bcond17 (Cond.ofBits (fieldLow4 h1)) (h1.extractLsb' 4 1 ++ field15 h2))
    else .ok (.ldHu16 (field15 h2) (fieldLow h1) (fieldHigh h1))
  else decodeExtended h1 h2

/-- PREPARE form (2), by `ff`, bits 20 and 19 (spec/47_special.md R373). -/
def decodePrepare2 (h1 h2 h3 h4 : Half) : Instr :=
  match h2.extractLsb' 3 2 with
  | 0b00#2 => .prepareSp (fieldImm5 h1) (fieldList h1 h2)
  | 0b01#2 => .prepareImmLo (fieldImm5 h1) (fieldList h1 h2) h3
  | 0b10#2 => .prepareImmHi (fieldImm5 h1) (fieldList h1 h2) h3
  | _ => .prepareImm32 (fieldImm5 h1) (fieldList h1 h2) (h4 ++ h3)

/-- The first halfword 0000011110xxxxxx with bit 16 = 1: PREPARE and Format XIV (spec/30_encoding.md R181). -/
def decodeLong (h1 h2 h3 h4 : Half) : Except DecodeError Instr :=
  let r1 := fieldLow h1
  let w := fieldHigh h2
  if fieldLow h2 == 0b00001#5 then .ok (.prepare (fieldImm5 h1) (fieldList h1 h2))
  else if h2.extractLsb' 0 3 == 0b011#3 then .ok (decodePrepare2 h1 h2 h3 h4)
  else if h2.extractLsb' 0 4 == 0b0101#4 then
    if h1.getLsbD 5 then .ok (.ldBu23 (fieldDisp23 h2 h3) r1 w) else .ok (.ldB23 (fieldDisp23 h2 h3) r1 w)
  else if h2.extractLsb' 0 4 == 0b1101#4 && !h1.getLsbD 5 then .ok (.stB23 (fieldDisp23 h2 h3) r1 w)
  else if h1.getLsbD 5 then
    match fieldLow h2 with
    | 0b00111#5 => .ok (.ldHu23 (fieldDisp22 h2 h3) r1 w)
    | 0b01001#5 => .ok (.ldDw (fieldDisp22 h2 h3) r1 w)
    | 0b01101#5 => .ok (.stH23 (fieldDisp22 h2 h3) r1 w)
    | 0b01111#5 => .ok (.stDw (fieldDisp22 h2 h3) r1 w)
    | _ => .error .undefined
  else
    match fieldLow h2 with
    | 0b00111#5 => .ok (.ldH23 (fieldDisp22 h2 h3) r1 w)
    | 0b01001#5 => .ok (.ldW23 (fieldDisp22 h2 h3) r1 w)
    | 0b01111#5 => .ok (.stW23 (fieldDisp22 h2 h3) r1 w)
    | _ => .error .undefined

/-- The row of `11110x` (spec/30_encoding.md R180): JARL disp22, JR disp22, LD.BU disp16, or R181. -/
def decode11110 (h1 h2 h3 h4 : Half) : Except DecodeError Instr :=
  let r2 := fieldHigh h1
  if bit16 h2 then
    if r2 == 0 then decodeLong h1 h2 h3 h4
    else .ok (.ldBu16 (field15 h2 ++ h1.extractLsb' 5 1) (fieldLow h1) r2)
  else if r2 == 0 then .ok (.jr22 (fieldDisp21 h1 h2))
  else .ok (.jarl22 (fieldDisp21 h1 h2) r2)

/-- The reg2 = 0 half of the row of opcode 000000 (spec/30_encoding.md R180). -/
def decodeNop (r1 : BitVec 5) : Except DecodeError Instr :=
  match r1 with
  | 0b00000#5 => .ok .nop
  | 0b11100#5 => .ok .synci
  | 0b11101#5 => .ok .synce
  | 0b11110#5 => .ok .syncm
  | 0b11111#5 => .ok .syncp
  | _ => .error .undefined

/-- The row of opcode 000010 (spec/30_encoding.md R180): DIVH, SWITCH, FETRAP, RIE or a prohibited DIVH. -/
def decode000010 (h1 : Half) : Except DecodeError Instr :=
  let r1 := fieldLow h1
  let r2 := fieldHigh h1
  if r1 == 0 then
    if r2 == 0 then .ok .rie
    else if h1.getLsbD 15 then .error .prohibitedDivhR0
    else .ok (.fetrap (h1.extractLsb' 11 4))
  else if r2 == 0 then .ok (.switch r1)
  else .ok (.divh2 r1 r2)

/-- The bit instructions with bit#3, by bits 15 and 14 (spec/30_encoding.md R180, Format VIII of R163). -/
def decodeBit (h1 h2 : Half) : Instr :=
  let b := h1.extractLsb' 11 3
  match h1.extractLsb' 14 2 with
  | 0b00#2 => .set1 b h2 (fieldLow h1)
  | 0b01#2 => .not1 b h2 (fieldLow h1)
  | 0b10#2 => .clr1 b h2 (fieldLow h1)
  | _ => .tst1 b h2 (fieldLow h1)

/-- The rows of the 6-bit major opcodes (spec/30_encoding.md R180); Formats III and IV are taken before. -/
def decodeMajor (h1 h2 h3 h4 : Half) : Except DecodeError Instr :=
  let r1 := fieldLow h1
  let r2 := fieldHigh h1
  let z := r2 == 0
  match fieldOp h1 with
  | 0b000000#6 => if z then decodeNop r1 else .ok (.movReg r1 r2)
  | 0b000001#6 => .ok (.notReg r1 r2)
  | 0b000010#6 => decode000010 h1
  | 0b000011#6 =>
    if z then .ok (.jmpReg r1)
    else if h1.getLsbD 4 then .ok (.sldHu (fieldLow4 h1) r2) else .ok (.sldBu (fieldLow4 h1) r2)
  | 0b000100#6 => if z then .ok (.zxb r1) else .ok (.satsubr r1 r2)
  | 0b000101#6 => if z then .ok (.sxb r1) else .ok (.satsub r1 r2)
  | 0b000110#6 => if z then .ok (.zxh r1) else .ok (.satadd r1 r2)
  | 0b000111#6 => if z then .ok (.sxh r1) else .ok (.mulh r1 r2)
  | 0b001000#6 => .ok (.orReg r1 r2)
  | 0b001001#6 => .ok (.xorReg r1 r2)
  | 0b001010#6 => .ok (.andReg r1 r2)
  | 0b001011#6 => .ok (.tst r1 r2)
  | 0b001100#6 => .ok (.subr r1 r2)
  | 0b001101#6 => .ok (.sub r1 r2)
  | 0b001110#6 => .ok (.addReg r1 r2)
  | 0b001111#6 => .ok (.cmpReg r1 r2)
  | 0b010000#6 => if z then .ok (.callt (h1.extractLsb' 0 6)) else .ok (.movImm5 r1 r2)
  | 0b010001#6 => if z then .ok (.callt (h1.extractLsb' 0 6)) else .ok (.sataddImm r1 r2)
  | 0b010010#6 => .ok (.addImm r1 r2)
  | 0b010011#6 => .ok (.cmpImm r1 r2)
  | 0b010100#6 => .ok (.shrImm r1 r2)
  | 0b010101#6 => .ok (.sarImm r1 r2)
  | 0b010110#6 => .ok (.shlImm r1 r2)
  | 0b010111#6 =>
    if z then
      requireBits (!bit16 h2) (if r1 == 0 then .jr32 (fieldDisp31 h2 h3) else .jarl32 (fieldDisp31 h2 h3) r1)
    else .ok (.mulhImm r1 r2)
  | 0b110000#6 => .ok (.addi h2 r1 r2)
  | 0b110001#6 => if z then .ok (.movImm32 (h3 ++ h2) r1) else .ok (.movea h2 r1 r2)
  | 0b110010#6 => if z then decodeDispose h1 h2 else .ok (.movhi h2 r1 r2)
  | 0b110011#6 => if z then decodeDispose h1 h2 else .ok (.satsubi h2 r1 r2)
  | 0b110100#6 => .ok (.ori h2 r1 r2)
  | 0b110101#6 => .ok (.xori h2 r1 r2)
  | 0b110110#6 => .ok (.andi h2 r1 r2)
  | 0b110111#6 =>
    if z then
      if bit16 h2 then
        if r1 == 0 then .error .prohibitedLoopR0 else .ok (.loop r1 (field15 h2))
      else .ok (.jmp32 (fieldDisp31 h2 h3) r1)
    else .ok (.mulhi h2 r1 r2)
  | 0b111000#6 => .ok (.ldB16 h2 r1 r2)
  | 0b111001#6 => if bit16 h2 then .ok (.ldW16 (field15 h2) r1 r2) else .ok (.ldH16 (field15 h2) r1 r2)
  | 0b111010#6 => .ok (.stB16 h2 r1 r2)
  | 0b111011#6 => if bit16 h2 then .ok (.stW16 (field15 h2) r1 r2) else .ok (.stH16 (field15 h2) r1 r2)
  | 0b111100#6 | 0b111101#6 => decode11110 h1 h2 h3 h4
  | 0b111110#6 => .ok (decodeBit h1 h2)
  | 0b111111#6 => decode111111 h1 h2
  | _ => .error .undefined
where
  /-- DISPOSE, form (1) where bits 20 to 16 are 0, else form (2) (spec/47_special.md R370). -/
  decodeDispose (h1 h2 : Half) : Except DecodeError Instr :=
    if fieldLow h2 == 0 then .ok (.dispose (fieldImm5 h1) (fieldList h1 h2))
    else .ok (.disposeJmp (fieldImm5 h1) (fieldList h1 h2) (fieldLow h2))

/-- The instruction whose halfwords are `h1`, `h2`, `h3`, `h4`, as many of them as it has (spec/30_encoding.md R180,
R186): Formats III and IV by the 4-bit major opcode, the rest by the 6-bit one. -/
def decodeHalfs (h1 h2 h3 h4 : Half) : Except DecodeError Instr :=
  let r2 := fieldHigh h1
  match fieldOp4 h1 with
  | 0b0110#4 => .ok (.sldB (h1.extractLsb' 0 7) r2)
  | 0b0111#4 => .ok (.sstB (h1.extractLsb' 0 7) r2)
  | 0b1000#4 => .ok (.sldH (h1.extractLsb' 0 7) r2)
  | 0b1001#4 => .ok (.sstH (h1.extractLsb' 0 7) r2)
  | 0b1010#4 =>
    if h1.getLsbD 0 then .ok (.sstW (h1.extractLsb' 1 6) r2) else .ok (.sldW (h1.extractLsb' 1 6) r2)
  | 0b1011#4 => .ok (.bcond9 (Cond.ofBits (fieldLow4 h1)) (r2 ++ h1.extractLsb' 4 3))
  | _ => decodeMajor h1 h2 h3 h4

/-- The halfwords of a stream of bytes, each with its low byte first (spec/30_encoding.md R160). -/
def halfsOf : List Byte → List Half
  | b0 :: b1 :: rest => (b1 ++ b0) :: halfsOf rest
  | _ => []

/-- The bytes of halfwords, the low byte of each first (spec/30_encoding.md R160). -/
def bytesOf : List Half → List Byte
  | [] => []
  | h :: rest => h.extractLsb' 0 8 :: h.extractLsb' 8 8 :: bytesOf rest

/-- Decode the first instruction of a stream of bytes and give back the bytes after it. -/
def decode (bs : List Byte) : Except DecodeError (Instr × List Byte) :=
  let hs := halfsOf (bs.take 8)
  let h1 := hs.getD 0 0
  let h2 := hs.getD 1 0
  if bs.length < 2 || bs.length < instrLength h1 h2 then .error .truncated
  else
    match decodeHalfs h1 h2 (hs.getD 2 0) (hs.getD 3 0) with
    | .ok i => .ok (i, bs.drop (instrLength h1 h2))
    | .error e => .error e

/-! ### Encoding -/

/-- The halfwords of an instruction, the first at the lowest address: the rows of spec/opcode_table.json. -/
def encode : Instr → List Half
  | .ldB16 disp16 reg1 reg2 => [reg2 ++ 0b111000#6 ++ reg1, disp16]
  | .ldB23 disp23 reg1 reg3 =>
    [0#5 ++ 0b111100#6 ++ reg1, reg3 ++ disp23.extractLsb' 0 7 ++ 0b0101#4, disp23.extractLsb' 7 16]
  | .ldBu16 disp16 reg1 reg2 => [reg2 ++ 0b11110#5 ++ disp16.extractLsb' 0 1 ++ reg1, disp16.extractLsb' 1 15 ++ 1#1]
  | .ldBu23 disp23 reg1 reg3 =>
    [0#5 ++ 0b111101#6 ++ reg1, reg3 ++ disp23.extractLsb' 0 7 ++ 0b0101#4, disp23.extractLsb' 7 16]
  | .ldDw disp reg1 reg3 =>
    [0#5 ++ 0b111101#6 ++ reg1, reg3 ++ disp.extractLsb' 0 6 ++ 0b01001#5, disp.extractLsb' 6 16]
  | .ldH16 disp reg1 reg2 => [reg2 ++ 0b111001#6 ++ reg1, disp ++ 0#1]
  | .ldH23 disp reg1 reg3 =>
    [0#5 ++ 0b111100#6 ++ reg1, reg3 ++ disp.extractLsb' 0 6 ++ 0b00111#5, disp.extractLsb' 6 16]
  | .ldHu16 disp reg1 reg2 => [reg2 ++ 0b111111#6 ++ reg1, disp ++ 1#1]
  | .ldHu23 disp reg1 reg3 =>
    [0#5 ++ 0b111101#6 ++ reg1, reg3 ++ disp.extractLsb' 0 6 ++ 0b00111#5, disp.extractLsb' 6 16]
  | .ldW16 disp reg1 reg2 => [reg2 ++ 0b111001#6 ++ reg1, disp ++ 1#1]
  | .ldW23 disp reg1 reg3 =>
    [0#5 ++ 0b111100#6 ++ reg1, reg3 ++ disp.extractLsb' 0 6 ++ 0b01001#5, disp.extractLsb' 6 16]
  | .sldB disp reg2 => [reg2 ++ 0b0110#4 ++ disp]
  | .sldBu disp reg2 => [reg2 ++ 0b0000110#7 ++ disp]
  | .sldH disp reg2 => [reg2 ++ 0b1000#4 ++ disp]
  | .sldHu disp reg2 => [reg2 ++ 0b0000111#7 ++ disp]
  | .sldW disp reg2 => [reg2 ++ 0b1010#4 ++ disp ++ 0#1]
  | .stB16 disp16 reg1 reg2 => [reg2 ++ 0b111010#6 ++ reg1, disp16]
  | .stB23 disp23 reg1 reg3 =>
    [0#5 ++ 0b111100#6 ++ reg1, reg3 ++ disp23.extractLsb' 0 7 ++ 0b1101#4, disp23.extractLsb' 7 16]
  | .stDw disp reg1 reg3 =>
    [0#5 ++ 0b111101#6 ++ reg1, reg3 ++ disp.extractLsb' 0 6 ++ 0b01111#5, disp.extractLsb' 6 16]
  | .stH16 disp reg1 reg2 => [reg2 ++ 0b111011#6 ++ reg1, disp ++ 0#1]
  | .stH23 disp reg1 reg3 =>
    [0#5 ++ 0b111101#6 ++ reg1, reg3 ++ disp.extractLsb' 0 6 ++ 0b01101#5, disp.extractLsb' 6 16]
  | .stW16 disp reg1 reg2 => [reg2 ++ 0b111011#6 ++ reg1, disp ++ 1#1]
  | .stW23 disp reg1 reg3 =>
    [0#5 ++ 0b111100#6 ++ reg1, reg3 ++ disp.extractLsb' 0 6 ++ 0b01111#5, disp.extractLsb' 6 16]
  | .sstB disp reg2 => [reg2 ++ 0b0111#4 ++ disp]
  | .sstH disp reg2 => [reg2 ++ 0b1001#4 ++ disp]
  | .sstW disp reg2 => [reg2 ++ 0b1010#4 ++ disp ++ 1#1]
  | .mul reg1 reg2 reg3 => [reg2 ++ 0b111111#6 ++ reg1, reg3 ++ 0b01000100000#11]
  | .mulImm imm9 reg2 reg3 =>
    [reg2 ++ 0b111111#6 ++ imm9.extractLsb' 0 5, reg3 ++ 0b01001#5 ++ imm9.extractLsb' 5 4 ++ 0b00#2]
  | .mulh reg1 reg2 => [reg2 ++ 0b000111#6 ++ reg1]
  | .mulhImm imm5 reg2 => [reg2 ++ 0b010111#6 ++ imm5]
  | .mulhi imm16 reg1 reg2 => [reg2 ++ 0b110111#6 ++ reg1, imm16]
  | .mulu reg1 reg2 reg3 => [reg2 ++ 0b111111#6 ++ reg1, reg3 ++ 0b01000100010#11]
  | .muluImm imm9 reg2 reg3 =>
    [reg2 ++ 0b111111#6 ++ imm9.extractLsb' 0 5, reg3 ++ 0b01001#5 ++ imm9.extractLsb' 5 4 ++ 0b10#2]
  | .mac reg1 reg2 reg3 reg4 => [reg2 ++ 0b111111#6 ++ reg1, reg3 ++ 0#1 ++ 0b011110#6 ++ reg4 ++ 0#1]
  | .macu reg1 reg2 reg3 reg4 => [reg2 ++ 0b111111#6 ++ reg1, reg3 ++ 0#1 ++ 0b011111#6 ++ reg4 ++ 0#1]
  | .addReg reg1 reg2 => [reg2 ++ 0b001110#6 ++ reg1]
  | .addImm imm5 reg2 => [reg2 ++ 0b010010#6 ++ imm5]
  | .addi imm16 reg1 reg2 => [reg2 ++ 0b110000#6 ++ reg1, imm16]
  | .cmpReg reg1 reg2 => [reg2 ++ 0b001111#6 ++ reg1]
  | .cmpImm imm5 reg2 => [reg2 ++ 0b010011#6 ++ imm5]
  | .movReg reg1 reg2 => [reg2 ++ 0b000000#6 ++ reg1]
  | .movImm5 imm5 reg2 => [reg2 ++ 0b010000#6 ++ imm5]
  | .movImm32 imm32 reg1 => [0#5 ++ 0b110001#6 ++ reg1, imm32.extractLsb' 0 16, imm32.extractLsb' 16 16]
  | .movea imm16 reg1 reg2 => [reg2 ++ 0b110001#6 ++ reg1, imm16]
  | .movhi imm16 reg1 reg2 => [reg2 ++ 0b110010#6 ++ reg1, imm16]
  | .sub reg1 reg2 => [reg2 ++ 0b001101#6 ++ reg1]
  | .subr reg1 reg2 => [reg2 ++ 0b001100#6 ++ reg1]
  | .adf cond reg1 reg2 reg3 => [reg2 ++ 0b111111#6 ++ reg1, reg3 ++ 0b011101#6 ++ cond.toBits ++ 0#1]
  | .sbf cond reg1 reg2 reg3 => [reg2 ++ 0b111111#6 ++ reg1, reg3 ++ 0b011100#6 ++ cond.toBits ++ 0#1]
  | .satadd reg1 reg2 => [reg2 ++ 0b000110#6 ++ reg1]
  | .sataddImm imm5 reg2 => [reg2 ++ 0b010001#6 ++ imm5]
  | .satadd3 reg1 reg2 reg3 => [reg2 ++ 0b111111#6 ++ reg1, reg3 ++ 0b01110111010#11]
  | .satsub reg1 reg2 => [reg2 ++ 0b000101#6 ++ reg1]
  | .satsub3 reg1 reg2 reg3 => [reg2 ++ 0b111111#6 ++ reg1, reg3 ++ 0b01110011010#11]
  | .satsubi imm16 reg1 reg2 => [reg2 ++ 0b110011#6 ++ reg1, imm16]
  | .satsubr reg1 reg2 => [reg2 ++ 0b000100#6 ++ reg1]
  | .andReg reg1 reg2 => [reg2 ++ 0b001010#6 ++ reg1]
  | .andi imm16 reg1 reg2 => [reg2 ++ 0b110110#6 ++ reg1, imm16]
  | .notReg reg1 reg2 => [reg2 ++ 0b000001#6 ++ reg1]
  | .orReg reg1 reg2 => [reg2 ++ 0b001000#6 ++ reg1]
  | .ori imm16 reg1 reg2 => [reg2 ++ 0b110100#6 ++ reg1, imm16]
  | .tst reg1 reg2 => [reg2 ++ 0b001011#6 ++ reg1]
  | .xorReg reg1 reg2 => [reg2 ++ 0b001001#6 ++ reg1]
  | .xori imm16 reg1 reg2 => [reg2 ++ 0b110101#6 ++ reg1, imm16]
  | .binsHh reg1 msb lsb reg2 =>
    [reg2 ++ 0b111111#6 ++ reg1, msb ++ lsb.extractLsb' 3 1 ++ 0b0001001#7 ++ lsb.extractLsb' 0 3 ++ 0#1]
  | .binsHl reg1 msb lsb reg2 =>
    [reg2 ++ 0b111111#6 ++ reg1, msb ++ lsb.extractLsb' 3 1 ++ 0b0001011#7 ++ lsb.extractLsb' 0 3 ++ 0#1]
  | .binsLl reg1 msb lsb reg2 =>
    [reg2 ++ 0b111111#6 ++ reg1, msb ++ lsb.extractLsb' 3 1 ++ 0b0001101#7 ++ lsb.extractLsb' 0 3 ++ 0#1]
  | .bsh reg2 reg3 => [reg2 ++ 0b111111#6 ++ 0#5, reg3 ++ 0b01101000010#11]
  | .bsw reg2 reg3 => [reg2 ++ 0b111111#6 ++ 0#5, reg3 ++ 0b01101000000#11]
  | .cmov cond reg1 reg2 reg3 => [reg2 ++ 0b111111#6 ++ reg1, reg3 ++ 0b011001#6 ++ cond.toBits ++ 0#1]
  | .cmovImm cond imm5 reg2 reg3 => [reg2 ++ 0b111111#6 ++ imm5, reg3 ++ 0b011000#6 ++ cond.toBits ++ 0#1]
  | .hsh reg2 reg3 => [reg2 ++ 0b111111#6 ++ 0#5, reg3 ++ 0b01101000110#11]
  | .hsw reg2 reg3 => [reg2 ++ 0b111111#6 ++ 0#5, reg3 ++ 0b01101000100#11]
  | .rotlImm imm5 reg2 reg3 => [reg2 ++ 0b111111#6 ++ imm5, reg3 ++ 0b00011000100#11]
  | .rotl reg1 reg2 reg3 => [reg2 ++ 0b111111#6 ++ reg1, reg3 ++ 0b00011000110#11]
  | .sar reg1 reg2 => [reg2 ++ 0b111111#6 ++ reg1, 0#5 ++ 0b00010100000#11]
  | .sarImm imm5 reg2 => [reg2 ++ 0b010101#6 ++ imm5]
  | .sar3 reg1 reg2 reg3 => [reg2 ++ 0b111111#6 ++ reg1, reg3 ++ 0b00010100010#11]
  | .sasf cond reg2 => [reg2 ++ 0b111111#6 ++ 0#1 ++ cond.toBits, 0#5 ++ 0b01000000000#11]
  | .setf cond reg2 => [reg2 ++ 0b111111#6 ++ 0#1 ++ cond.toBits, 0#5 ++ 0b00000000000#11]
  | .shl reg1 reg2 => [reg2 ++ 0b111111#6 ++ reg1, 0#5 ++ 0b00011000000#11]
  | .shlImm imm5 reg2 => [reg2 ++ 0b010110#6 ++ imm5]
  | .shl3 reg1 reg2 reg3 => [reg2 ++ 0b111111#6 ++ reg1, reg3 ++ 0b00011000010#11]
  | .shr reg1 reg2 => [reg2 ++ 0b111111#6 ++ reg1, 0#5 ++ 0b00010000000#11]
  | .shrImm imm5 reg2 => [reg2 ++ 0b010100#6 ++ imm5]
  | .shr3 reg1 reg2 reg3 => [reg2 ++ 0b111111#6 ++ reg1, reg3 ++ 0b00010000010#11]
  | .sxb reg1 => [0#5 ++ 0b000101#6 ++ reg1]
  | .sxh reg1 => [0#5 ++ 0b000111#6 ++ reg1]
  | .zxb reg1 => [0#5 ++ 0b000100#6 ++ reg1]
  | .zxh reg1 => [0#5 ++ 0b000110#6 ++ reg1]
  | .sch0l reg2 reg3 => [reg2 ++ 0b111111#6 ++ 0#5, reg3 ++ 0b01101100100#11]
  | .sch0r reg2 reg3 => [reg2 ++ 0b111111#6 ++ 0#5, reg3 ++ 0b01101100000#11]
  | .sch1l reg2 reg3 => [reg2 ++ 0b111111#6 ++ 0#5, reg3 ++ 0b01101100110#11]
  | .sch1r reg2 reg3 => [reg2 ++ 0b111111#6 ++ 0#5, reg3 ++ 0b01101100010#11]
  | .div reg1 reg2 reg3 => [reg2 ++ 0b111111#6 ++ reg1, reg3 ++ 0b01011000000#11]
  | .divh2 reg1 reg2 => [reg2 ++ 0b000010#6 ++ reg1]
  | .divh3 reg1 reg2 reg3 => [reg2 ++ 0b111111#6 ++ reg1, reg3 ++ 0b01010000000#11]
  | .divhu reg1 reg2 reg3 => [reg2 ++ 0b111111#6 ++ reg1, reg3 ++ 0b01010000010#11]
  | .divu reg1 reg2 reg3 => [reg2 ++ 0b111111#6 ++ reg1, reg3 ++ 0b01011000010#11]
  | .divq reg1 reg2 reg3 => [reg2 ++ 0b111111#6 ++ reg1, reg3 ++ 0b01011111100#11]
  | .divqu reg1 reg2 reg3 => [reg2 ++ 0b111111#6 ++ reg1, reg3 ++ 0b01011111110#11]
  | .bcond9 cond disp => [disp.extractLsb' 3 5 ++ 0b1011#4 ++ disp.extractLsb' 0 3 ++ cond.toBits]
  | .bcond17 cond disp => [0#5 ++ 0b111111#6 ++ disp.extractLsb' 15 1 ++ cond.toBits, disp.extractLsb' 0 15 ++ 1#1]
  | .jarl22 disp reg2 => [reg2 ++ 0b11110#5 ++ disp.extractLsb' 15 6, disp.extractLsb' 0 15 ++ 0#1]
  | .jarl32 disp reg1 => [0#5 ++ 0b010111#6 ++ reg1, disp.extractLsb' 0 15 ++ 0#1, disp.extractLsb' 15 16]
  | .jarlReg reg1 reg3 => [0b11000#5 ++ 0b111111#6 ++ reg1, reg3 ++ 0b00101100000#11]
  | .jmpReg reg1 => [0#5 ++ 0b000011#6 ++ reg1]
  | .jmp32 disp reg1 => [0#5 ++ 0b110111#6 ++ reg1, disp.extractLsb' 0 15 ++ 0#1, disp.extractLsb' 15 16]
  | .jr22 disp => [0#5 ++ 0b11110#5 ++ disp.extractLsb' 15 6, disp.extractLsb' 0 15 ++ 0#1]
  | .jr32 disp => [0#5 ++ 0b010111#6 ++ 0#5, disp.extractLsb' 0 15 ++ 0#1, disp.extractLsb' 15 16]
  | .loop reg1 disp => [0#5 ++ 0b110111#6 ++ reg1, disp ++ 1#1]
  | .clr1 bit3 disp16 reg1 => [0b10#2 ++ bit3 ++ 0b111110#6 ++ reg1, disp16]
  | .clr1Reg reg1 reg2 => [reg2 ++ 0b111111#6 ++ reg1, 0#5 ++ 0b00011100100#11]
  | .not1 bit3 disp16 reg1 => [0b01#2 ++ bit3 ++ 0b111110#6 ++ reg1, disp16]
  | .not1Reg reg1 reg2 => [reg2 ++ 0b111111#6 ++ reg1, 0#5 ++ 0b00011100010#11]
  | .set1 bit3 disp16 reg1 => [0b00#2 ++ bit3 ++ 0b111110#6 ++ reg1, disp16]
  | .set1Reg reg1 reg2 => [reg2 ++ 0b111111#6 ++ reg1, 0#5 ++ 0b00011100000#11]
  | .tst1 bit3 disp16 reg1 => [0b11#2 ++ bit3 ++ 0b111110#6 ++ reg1, disp16]
  | .tst1Reg reg1 reg2 => [reg2 ++ 0b111111#6 ++ reg1, 0#5 ++ 0b00011100110#11]
  | .callt imm6 => [0b0000001000#10 ++ imm6]
  | .caxi reg1 reg2 reg3 => [reg2 ++ 0b111111#6 ++ reg1, reg3 ++ 0b00011101110#11]
  | .cll => [0b11111#5 ++ 0b111111#6 ++ 0b11111#5, 0b11110#5 ++ 0b00101100000#11]
  | .ctret => [0#5 ++ 0b111111#6 ++ 0#5, 0#5 ++ 0b00101000100#11]
  | .di => [0#5 ++ 0b111111#6 ++ 0#5, 0#5 ++ 0b00101100000#11]
  | .dispose imm5 list12 => [0#5 ++ 0b11001#5 ++ imm5 ++ list12.extractLsb' 0 1, list12.extractLsb' 1 11 ++ 0#5]
  | .disposeJmp imm5 list12 reg1 =>
    [0#5 ++ 0b11001#5 ++ imm5 ++ list12.extractLsb' 0 1, list12.extractLsb' 1 11 ++ reg1]
  | .ei => [0b10000#5 ++ 0b111111#6 ++ 0#5, 0#5 ++ 0b00101100000#11]
  | .eiret => [0#5 ++ 0b111111#6 ++ 0#5, 0#5 ++ 0b00101001000#11]
  | .feret => [0#5 ++ 0b111111#6 ++ 0#5, 0#5 ++ 0b00101001010#11]
  | .fetrap vector4 => [0#1 ++ vector4 ++ 0b00001000000#11]
  | .halt => [0#5 ++ 0b111111#6 ++ 0#5, 0#5 ++ 0b00100100000#11]
  | .ldlW reg1 reg3 => [0#5 ++ 0b111111#6 ++ reg1, reg3 ++ 0b01101111000#11]
  | .ldsr reg2 regID selID => [regID ++ 0b111111#6 ++ reg2, selID ++ 0b00000100000#11]
  | .nop => [0#16]
  | .popsp rh rt => [0b01100#5 ++ 0b111111#6 ++ rh, rt ++ 0b00101100000#11]
  | .prepare imm5 list12 => [0#5 ++ 0b11110#5 ++ imm5 ++ list12.extractLsb' 0 1, list12.extractLsb' 1 11 ++ 0b00001#5]
  | .prepareSp imm5 list12 =>
    [0#5 ++ 0b11110#5 ++ imm5 ++ list12.extractLsb' 0 1, list12.extractLsb' 1 11 ++ 0b00011#5]
  | .prepareImmLo imm5 list12 imm16 =>
    [0#5 ++ 0b11110#5 ++ imm5 ++ list12.extractLsb' 0 1, list12.extractLsb' 1 11 ++ 0b01011#5, imm16]
  | .prepareImmHi imm5 list12 imm16 =>
    [0#5 ++ 0b11110#5 ++ imm5 ++ list12.extractLsb' 0 1, list12.extractLsb' 1 11 ++ 0b10011#5, imm16]
  | .prepareImm32 imm5 list12 imm32 =>
    [0#5 ++ 0b11110#5 ++ imm5 ++ list12.extractLsb' 0 1,
     list12.extractLsb' 1 11 ++ 0b11011#5, imm32.extractLsb' 0 16, imm32.extractLsb' 16 16]
  | .pushsp rh rt => [0b01000#5 ++ 0b111111#6 ++ rh, rt ++ 0b00101100000#11]
  | .rie => [0b0000000001000000#16]
  | .rieImm imm5 imm4 => [imm5 ++ 0b1111111#7 ++ imm4, 0#16]
  | .snooze => [0b00001#5 ++ 0b111111#6 ++ 0#5, 0#5 ++ 0b00100100000#11]
  | .stcW reg1 reg3 => [0#5 ++ 0b111111#6 ++ reg1, reg3 ++ 0b01101111010#11]
  | .stsr regID reg2 selID => [reg2 ++ 0b111111#6 ++ regID, selID ++ 0b00001000000#11]
  | .switch reg1 => [0#5 ++ 0b000010#6 ++ reg1]
  | .synce => [0b0000000000011101#16]
  | .synci => [0b0000000000011100#16]
  | .syncm => [0b0000000000011110#16]
  | .syncp => [0b0000000000011111#16]
  | .syscall vector8 =>
    [0b11010#5 ++ 0b111111#6 ++ vector8.extractLsb' 0 5, 0b00#2 ++ vector8.extractLsb' 5 3 ++ 0b00101100000#11]
  | .trap vector5 => [0#5 ++ 0b111111#6 ++ vector5, 0#5 ++ 0b00100000000#11]
  | .cache cacheop reg1 =>
    [0b111#3 ++ cacheop.extractLsb' 5 2 ++ 0b111111#6 ++ reg1, cacheop.extractLsb' 0 5 ++ 0b00101100000#11]
  | .pref prefop reg1 => [0b11011#5 ++ 0b111111#6 ++ reg1, prefop ++ 0b00101100000#11]

/-- The number of bytes of an instruction: two for each halfword of its row (spec/30_encoding.md R160). -/
def Instr.length (i : Instr) : Nat := 2 * (encode i).length

/-- The four halfwords of the bits `w` of an instruction of `nbits` bits, numbered as spec/opcode_table.json numbers
them; every bit from `nbits` up is 0. -/
def tableHalfs (nbits w : Nat) : List Half :=
  let v := w % 2 ^ nbits
  [BitVec.ofNat 16 v, BitVec.ofNat 16 (v / 2 ^ 16), BitVec.ofNat 16 (v / 2 ^ 32), BitVec.ofNat 16 (v / 2 ^ 48)]

/-- The instruction that `decode` reads from the bytes of the bits `w` of an instruction of `nbits` bits. -/
def decodeTableWord (nbits w : Nat) : Option Instr :=
  match decode (bytesOf (tableHalfs nbits w)) with
  | .ok (i, _) => some i
  | .error _ => none

end Sys2Proof
end

