-- ==== Sys2Proof/Machine/Fetch.lean ====
section
/-!
DEFINITION. Fetching and decoding the instruction at the program counter (spec/20_memory.md R107, R121, R125, R142;
spec/30_encoding.md R179, R185, R186; spec/60_exceptions.md R400 steps 4 and 5).
-/
namespace Sys2Proof.Machine

open Sys2Proof

/-- What a fetch comes to. -/
inductive Fetched where
  /-- The decoded instruction, to be executed in state `s`. -/
  | instr (i : Instr) (s : State)
  /-- An exception was taken: `s` is the state after it. -/
  | raised (s : State)
  | refused (r : Refusal)
  | stopped (f : Fault)

/-- The byte at `a` as it was before the first of the stores `es` (newest first), where it is `b` now. -/
def byteBefore (a : Word) : List StaleByte → Byte → Byte
  | [], b => b
  | e :: rest, b => byteBefore a rest (if e.addr = a then e.old else b)

/-- This core has stored to the halfword at `a` without the sequence of spec/20_memory.md R142. -/
def State.staleHalf (s : State) (a : Word) : Bool := s.stale.any (fun e => inRange e.addr a 2)

/-- The byte at `a` as the bus gives it: the `k`-th free byte where nothing is behind the address. -/
def State.busByte (s : State) (a : Word) (k : Nat) : Byte :=
  if s.kindAt a == .plain then s.byteAt a else Config.freeByte (s.freeCtr + k)

/-- Fetch the halfword at `a`. Where this core has stored to it without the sequence of spec/20_memory.md R142, a free
value says whether the fetch sees its new bytes or its old ones, those from before the first of these stores
(spec/93_implementation_defined.md U10: two values, halfword by halfword; log 20). -/
def State.fetchHalf (s : State) (a : Word) : Half × State :=
  let b0 := s.busByte a 0
  let b1 := s.busByte (a + 1) 1
  let t := if s.plainAll a 2 then s else s.useFree 2
  if s.staleHalf a then
    let old := byteBefore (a + 1) s.stale b1 ++ byteBefore a s.stale b0
    (if Config.fetchOld t.freeCtr then old else b1 ++ b0, t.useFree 1)
  else (b1 ++ b0, t)

/-- The halfwords of an instruction, as many as it has. -/
structure FetchedHalfs where
  h1 : Half
  h2 : Half
  h3 : Half
  h4 : Half
  /-- Its length in bytes (spec/30_encoding.md R161). -/
  length : Nat
  state : State

/-- Fetch the halfwords at the program counter: the second only where the first says there is one, and so on
(spec/30_encoding.md R160, R161). -/
def State.fetchHalfs (s : State) : FetchedHalfs :=
  let (h1, s1) := s.fetchHalf s.pc
  if instrLength h1 0 ≤ 2 then ⟨h1, 0, 0, 0, 2, s1⟩
  else
    let (h2, s2) := s1.fetchHalf (s.pc + 2)
    let n := instrLength h1 h2
    if n ≤ 4 then ⟨h1, h2, 0, 0, n, s2⟩
    else
      let (h3, s3) := s2.fetchHalf (s.pc + 4)
      if n ≤ 6 then ⟨h1, h2, h3, 0, n, s3⟩
      else
        let (h4, s4) := s3.fetchHalf (s.pc + 6)
        ⟨h1, h2, h3, h4, n, s4⟩

/-- Raise MIP: MEA takes the PC, MEI is not written (spec/20_memory.md R125). -/
def State.raiseMip (s : State) : State := { s with sys := { s.sys with mea := s.pc } }.raise .mip

/-- The coprocessor that the product gives a pattern to (spec/30_encoding.md R185). -/
def coproOf (ps : List CoproPattern) (h1 h2 : Half) : Option (Fin 3) :=
  match ps with
  | [] => none
  | p :: rest =>
    if (h2 ++ h1 : Word) &&& p.mask == p.value &&& p.mask then some p.cu else coproOf rest h1 h2

/-- Raise the exception of a pattern that is no instruction: UCPOP where the product gives it to a coprocessor, else
RIE (spec/30_encoding.md R179, R185). -/
def State.raiseUndefined (s : State) (h1 h2 : Half) : State :=
  match coproOf s.product.copro h1 h2 with
  | some cu => s.raise (.ucpop cu)
  | none => s.raise .rie

/-- Decode fetched halfwords; a prohibited pattern is refused by its name (spec/30_encoding.md R178, R186). -/
def decodeFetched (f : FetchedHalfs) : Fetched :=
  match decodeHalfs f.h1 f.h2 f.h3 f.h4 with
  | .ok i => .instr i f.state
  | .error .prohibitedBranchAlways17 => .refused .prohibitedBranchAlways17
  | .error .prohibitedLoopR0 => .refused .prohibitedLoopR0
  | .error .prohibitedDivhR0 => .refused .prohibitedDivhR0
  | .error .prohibitedJarlR0 => .refused .prohibitedJarlR0
  | .error .undefined => .raised (f.state.raiseUndefined f.h1 f.h2)
  | .error .truncated => .raised (f.state.raiseUndefined f.h1 f.h2)

/-- Fetch and decode the instruction at the program counter: MIP first, then a fetch error, then the decoding
(spec/20_memory.md R121, spec/60_exceptions.md R400, R412, R415). An exception is taken with the free values the fetch
used counted as used (log 14). -/
def State.fetch (s : State) : Fetched :=
  let f := s.fetchHalfs
  if !s.mpuAllowsAll s.psw.um .execute s.pc f.length then .raised f.state.raiseMip
  else
    match s.fetchError s.pc f.length with
    | some e => .raised (f.state.raise (.syserr e))
    | none => if s.deviceAny s.pc f.length then .stopped .deviceAccess else decodeFetched f

/-- Place the halfwords `hs` from `a` on, as a loader outside the core does: nothing is left stale there. -/
def State.placeHalfs (s : State) (a : Word) : List Half → State
  | [] => s
  | h :: rest =>
    { s with mem := (s.mem.write a.toNat (h.extractLsb' 0 8)).write (a + 1).toNat (h.extractLsb' 8 8),
             stale := s.stale.filter (fun e => !inRange e.addr a 2) }.placeHalfs (a + 2) rest

end Sys2Proof.Machine
end

