-- ==== Sys2Proof/Machine/Interrupt.lean ====
section
/-!
DEFINITION. What happens between two instructions: the reset input, the release of HALT and SNOOZE, and the
acknowledgement of a terminating exception (spec/60_exceptions.md R400, R410 to R443, R460 to R463;
spec/70_reset_and_hazards.md R480, R481).
-/
namespace Sys2Proof.Machine

open Sys2Proof

/-- The reset input: every register at its value after reset, every request discarded; memory is kept
(spec/70_reset_and_hazards.md R480, R483; logs 13 and 46). -/
def State.resetInput (s : State) : State :=
  { State.resetOf s.product s.mem with freeCtr := s.freeCtr, eoi := s.eoi }

/-- A request that ends HALT and SNOOZE; ID, NP, ISPR and PMR are not consulted (spec/60_exceptions.md R461). -/
def State.releaseRequest (s : State) : Bool :=
  s.req.fenmi || s.req.feint || s.syserrRequest.isSome || !s.eiintRequests.isEmpty

/-- The running state in which a step goes on, or `none` where the core stays halted or snoozing
(spec/60_exceptions.md R461, R463). -/
def State.wake (s : State) : Option State :=
  match s.run with
  | .running => some s
  | .halted => if s.releaseRequest then some { s with run := .running } else none
  | .snoozing n => if s.releaseRequest || n == 0 then some { s with run := .running } else none

/-- One step of a core that stays halted or snoozing: only the rest of the snooze period changes
(spec/60_exceptions.md R460, R463). -/
def State.idle (s : State) : State :=
  match s.run with
  | .snoozing (n + 1) => { s with run := .snoozing n }
  | _ => s

/-- PMR or ISPR masks a request of priority `p` (spec/60_exceptions.md R433). -/
def State.eiintMasked (s : State) (p : BitVec 3) : Bool :=
  s.sys.pmr.getLsbD p.toNat || s.sys.ispr.setWidth 8 &&& (0xFF#8 >>> (7 - p.toNat)) != 0

/-- `r` goes before `q`: the smaller priority number, then the smaller channel (spec/60_exceptions.md R433). -/
def EiintRequest.before (r q : EiintRequest) : Bool :=
  decide (r.priority < q.priority) || (r.priority == q.priority && decide (r.channel < q.channel))

/-- The first of a list of requests in the order of `EiintRequest.before`. -/
def firstRequest : List EiintRequest → Option EiintRequest
  | [] => none
  | r :: rest =>
    match firstRequest rest with
    | some q => if q.before r then some q else some r
    | none => some r

/-- The EIINT request that is acknowledged next: ID = 0, NP = 0, and the first that is not masked
(spec/60_exceptions.md R431, R433). -/
def State.eiintCandidate (s : State) : Option EiintRequest :=
  if s.psw.id || s.psw.np then none
  else firstRequest (s.eiintRequests.filter (fun r => !s.eiintMasked r.priority))

/-- The read of the interrupt handler table (spec/10_state.md R61). -/
def interruptTag : AccessTag := ⟨0, 2, true, 0b10101, false, false, false⟩

/-- The handler of an EIINT request is read from the table (spec/60_exceptions.md R442). -/
def State.usesTable (s : State) (r : EiintRequest) : Bool :=
  s.product.tableChannels.contains r.channel && !(s.baseRegister s.psw.ebv).getLsbD 0

/-- The address of a channel's entry in the interrupt handler table (spec/60_exceptions.md R442). -/
def State.tableEntry (s : State) (r : EiintRequest) : Word := s.sys.intbp + 4 * r.channel.setWidth 32

/-- The acknowledgement of an EIINT request but for its handler: the registers, ISPR where INTCFG.ISPC = 0, and the
request removed (spec/60_exceptions.md R420, R432). -/
def State.enterEiint (s : State) (r : EiintRequest) (handler : Word) : State :=
  let t := s.takeExceptionAt (.eiint r.channel r.priority) s.pc handler
  let ispr := if s.sys.intcfg.getLsbD 0 then t.sys.ispr else t.sys.ispr ||| (1 <<< r.priority.toNat)
  { t with sys := { t.sys with ispr := ispr }, req := { t.req with eiint := t.req.eiint.filter (fun q => q != r) } }

/-- Acknowledge an EIINT request (spec/60_exceptions.md R432, R442). Where the table read is refused, MDP is taken in
its place and the request stays (R443). -/
def State.acknowledgeEiint (s : State) (r : EiintRequest) : Result :=
  if s.usesTable r then
    (s.memRead interruptTag false (s.tableEntry r) 4).andThen fun v s => .next (s.enterEiint r v.low)
  else .next (s.enterEiint r (s.handlerAddress (.eiint r.channel r.priority)))

/-- Acknowledge the terminating exception of the highest priority whose condition holds (spec/60_exceptions.md R415,
R431); `none` where there is none. An acknowledged request is removed (R432). -/
def State.acknowledge (s : State) : Option Result :=
  if s.req.fenmi then some (.next ({ s with req := { s.req with fenmi := false } }.takeException .fenmi s.pc))
  else
    match s.syserrRequest with
    | some c => some (.next ({ s with req := { s.req with syserr := none } }.takeException (.syserr c) s.pc))
    | none =>
      if s.req.feint && !s.psw.np then
        some (.next ({ s with req := { s.req with feint := false } }.takeException .feint s.pc))
      else
        match s.eiintCandidate with
        | some r => some (s.acknowledgeEiint r)
        | none => none

end Sys2Proof.Machine
end

