-- ==== Sys2Proof/Machine/Step.lean ====
section
/-!
DEFINITION. One step of the machine (spec/60_exceptions.md R400), and where it fetches its next instruction.
-/
namespace Sys2Proof.Machine

open Sys2Proof

/-- Steps 4 to 8 of spec/60_exceptions.md R400: fetch, decode, execute. -/
def runInstruction (s : State) : Host.Outcome State Fault Refusal :=
  match s.fetch with
  | .instr i s' => exec i s'
  | .raised s' => .next s'
  | .refused r => .refused r
  | .stopped f => .fault f

/-- One step of the core (spec/60_exceptions.md R400): reset; a core that stays halted or snoozing; the terminating
exception of the highest priority; else the instruction at the program counter. -/
def step (s : State) : Host.Outcome State Fault Refusal :=
  if s.req.reset then .next s.resetInput
  else
    match s.wake with
    | none => .next s.idle
    | some s' =>
      match s'.acknowledge with
      | some r => r
      | none => runInstruction s'

/-- `s` with the instruction of the bits `w`, numbered as spec/opcode_table.json numbers them and 0 from bit `nbits`
up, at the program counter, the core running and no request standing, so that the next step runs it. -/
def State.withFetchWord (s : State) (nbits w : Nat) : State :=
  { s.placeHalfs s.pc (tableHalfs nbits w) with run := .running, req := Requests.none }

end Sys2Proof.Machine
end

