-- ==== Sys2Proof/Safety.lean ====
section
/-!
DEFINITION. The terms the claims use: what is the same before and after an instruction, when a data access may be made,
what an acknowledged exception leaves, the data access of each instruction that makes one, and the legal states.
-/
namespace Sys2Proof.Machine

open Sys2Proof

/-! ### What is the same before and after -/

/-- Every general register reads as before. -/
def SameRegs (s t : State) : Prop := ∀ r, t.reg r = s.reg r

/-- Register `d` reads `v`, unless it is r0 (spec/10_state.md R21); every other register reads as before. -/
def RegIs (s t : State) (d : Reg) (v : Word) : Prop := ∀ r, t.reg r = if r = d ∧ r ≠ 0 then v else s.reg r

/-- Register `d` reads `v` and register `e` reads `w`, which wins where they are one register; r0 reads 0; every other
register reads as before. -/
def RegsAre (s t : State) (d : Reg) (v : Word) (e : Reg) (w : Word) : Prop :=
  ∀ r, t.reg r = if r = 0 then 0 else if r = e then w else if r = d then v else s.reg r

/-- Every byte of memory reads as before. -/
def SameMemory (s t : State) : Prop := ∀ a, t.byteAt a = s.byteAt a

/-- Every byte of memory outside the `n` bytes from `a` on (addresses modulo 2^32) reads as before. -/
def SameMemoryBut (s t : State) (a : Word) (n : Nat) : Prop := ∀ b : Word, n ≤ (b - a).toNat → t.byteAt b = s.byteAt b

/-- Nothing but general registers, PC, PSW, memory and the model's own bookkeeping may differ: the special registers,
the protection areas, the run state, the requests, the product and the end-of-handler reports are as before. -/
def SameControl (s t : State) : Prop :=
  t.sys = s.sys ∧ t.areas = s.areas ∧ t.run = s.run ∧ t.req = s.req ∧ t.product = s.product ∧ t.eoi = s.eoi

/-- `i` completes: it answers a next state `t`, at the instruction `len` bytes further, of which `P` holds; the special
registers and what else `SameControl` names are as before. -/
def Completes (i : Instr) (s : State) (len : Nat) (P : State → Prop) : Prop :=
  ∃ t, exec i s = .next t ∧ t.pc = (s.pc + BitVec.ofNat 32 len).even ∧ SameControl s t ∧ P t

/-- `i` completes with register `d` holding `v` and the status word `p`, and touches no memory. -/
def Computes (i : Instr) (s : State) (len : Nat) (d : Reg) (v : Word) (p : Psw) : Prop :=
  Completes i s len fun t => RegIs s t d v ∧ t.psw = p ∧ SameMemory s t

/-- `i` completes with the status word `p`, and touches no register and no memory. -/
def SetsFlags (i : Instr) (s : State) (len : Nat) (p : Psw) : Prop :=
  Completes i s len fun t => SameRegs s t ∧ t.psw = p ∧ SameMemory s t

/-- `i` goes to `target` (bit 0 dropped) and writes no flag and no memory; register `d` takes `v`. -/
def JumpsLinking (i : Instr) (s : State) (target : Word) (d : Reg) (v : Word) : Prop :=
  ∃ t, exec i s = .next t ∧ t.pc = target.even ∧ RegIs s t d v ∧ t.psw = s.psw ∧ SameMemory s t ∧ SameControl s t

/-- `i` goes to `target` (bit 0 dropped) and changes nothing else. -/
def Jumps (i : Instr) (s : State) (target : Word) : Prop :=
  ∃ t, exec i s = .next t ∧ t.pc = target.even ∧ SameRegs s t ∧ t.psw = s.psw ∧ SameMemory s t ∧ SameControl s t

/-! ### Flags, written out from the rules -/

/-- The flags of an addition `a + b + c` (spec/41_arithmetic.md R240). -/
def addFlags (p : Psw) (a b : Word) (c : Bool) : Psw :=
  { p with
    cy := decide (2 ^ 32 ≤ a.toNat + b.toNat + c.toNat)
    ov := decide (a.toInt + b.toInt + c.toNat < -2 ^ 31 ∨ 2 ^ 31 - 1 < a.toInt + b.toInt + c.toNat)
    s := (a + b + BitVec.ofNat 32 c.toNat).msb
    z := decide (a + b + BitVec.ofNat 32 c.toNat = 0) }

/-- The flags of a subtraction `a - b - c` (spec/41_arithmetic.md R241). -/
def subFlags (p : Psw) (a b : Word) (c : Bool) : Psw :=
  { p with
    cy := decide (a.toNat < b.toNat + c.toNat)
    ov := decide (a.toInt - b.toInt - c.toNat < -2 ^ 31 ∨ 2 ^ 31 - 1 < a.toInt - b.toInt - c.toNat)
    s := (a - b - BitVec.ofNat 32 c.toNat).msb
    z := decide (a - b - BitVec.ofNat 32 c.toNat = 0) }

/-- The exact result brought into 32 bits: the nearest of the signed words (spec/42_saturated_logical.md R280). -/
def clampWord (x : Int) : Word := BitVec.ofInt 32 (max (-2 ^ 31) (min (2 ^ 31 - 1) x))

/-- The flags of a saturated operation whose exact result is `x` and whose carry or borrow is `cy`
(spec/42_saturated_logical.md R280). -/
def satFlags (p : Psw) (x : Int) (cy : Bool) : Psw :=
  { p with
    cy := cy
    ov := decide (x < -2 ^ 31 ∨ 2 ^ 31 - 1 < x)
    s := (clampWord x).msb
    z := decide (clampWord x = 0)
    sat := p.sat || decide (x < -2 ^ 31 ∨ 2 ^ 31 - 1 < x) }

/-- The flags of a result with OV cleared and CY kept (spec/42_saturated_logical.md R285). -/
def logicFlags (p : Psw) (v : Word) : Psw := { p with ov := false, s := v.msb, z := decide (v = 0) }

/-! ### Data accesses -/

/-- The halfword at `a`, little-endian (spec/20_memory.md R100). -/
def State.halfAt (s : State) (a : Word) : Half := s.byteAt (a + 1) ++ s.byteAt a

/-- The word at `a`, little-endian (spec/20_memory.md R100). -/
def State.wordAt (s : State) (a : Word) : Word :=
  s.byteAt (a + 3) ++ s.byteAt (a + 2) ++ s.byteAt (a + 1) ++ s.byteAt a

/-- The `n` bytes at `a` may be read in mode `um`: no misaligned access exception, every byte permitted, and memory
behind every byte (spec/20_memory.md R104, R117, R120). -/
def CanRead (s : State) (um : Bool) (a : Word) (n : Nat) : Prop :=
  s.maeApplies a n = false ∧ s.mpuAllowsAll um .read a n = true ∧ s.plainAll a n = true

/-- The `n` bytes at `a` may be written (spec/20_memory.md R104, R117, R120). -/
def CanWrite (s : State) (a : Word) (n : Nat) : Prop :=
  s.maeApplies a n = false ∧ s.mpuAllowsAll s.psw.um .write a n = true ∧ s.plainAll a n = true

/-- The `n` bytes at `a` hold the low `n` bytes of `v`, little-endian (spec/20_memory.md R100). -/
def Holds (t : State) (a : Word) (v : Dword) (n : Nat) : Prop :=
  ∀ k < n, t.byteAt (a + BitVec.ofNat 32 k) = v.extractLsb' (8 * k) 8

/-- `i` completes with the low `n` bytes of `v` stored at `a`, and changes no register, no flag and no other byte. -/
def Stores (i : Instr) (s : State) (len : Nat) (a : Word) (v : Dword) (n : Nat) : Prop :=
  Completes i s len fun t => SameRegs s t ∧ t.psw = s.psw ∧ Holds t a v n ∧ SameMemoryBut s t a n

/-- `i` completes with the byte at `a` changed to `b` and Z as given (spec/46_bit_manipulation.md R355). -/
def ChangesBit (i : Instr) (s : State) (a : Word) (b : Byte) (z : Bool) : Prop :=
  Completes i s 4 fun t =>
    SameRegs s t ∧ t.psw = { s.psw with z := z } ∧ t.byteAt a = b ∧ SameMemoryBut s t a 1

/-- The one data access of an instruction: where it lies, what it does, and what MEI says of it. -/
structure DataAccess where
  addr : Word
  size : Nat
  reads : Bool
  writes : Bool
  /-- The mode the protection check is made in (spec/20_memory.md R118). -/
  um : Bool
  /-- The value of MEI (spec/10_state.md R61). -/
  mei : Word

/-- The fields of MEI (spec/10_state.md R60). -/
def meiWord (reg : Reg) (ds : BitVec 2) (u : Bool) (itype : BitVec 5) (rw : Bool) : Word :=
  0#11 ++ reg ++ 0#5 ++ ds ++ BitVec.ofBool u ++ 0#2 ++ itype ++ BitVec.ofBool rw

/-- A read in the current mode. -/
def State.loads (s : State) (a : Word) (n : Nat) (mei : Word) : Option DataAccess :=
  some ⟨a, n, true, false, s.psw.um, mei⟩

/-- A write in the current mode. -/
def State.stores (s : State) (a : Word) (n : Nat) (mei : Word) : Option DataAccess :=
  some ⟨a, n, false, true, s.psw.um, mei⟩

/-- A read and a write of the same bytes in the current mode. -/
def State.modifies (s : State) (a : Word) (n : Nat) (mei : Word) : Option DataAccess :=
  some ⟨a, n, true, true, s.psw.um, mei⟩

/-- The data access of each instruction that makes exactly one (spec/20_memory.md R108, spec/10_state.md R61); the
instructions that make none, and the four that transfer a block, have none here. -/
def State.dataAccess (s : State) : Instr → Option DataAccess
  | .ldB16 d reg1 reg2 => s.loads (s.reg reg1 + d.signExtend 32) 1 (meiWord reg2 0 false 1 false)
  | .ldB23 d reg1 reg3 => s.loads (s.reg reg1 + d.signExtend 32) 1 (meiWord reg3 0 false 2 false)
  | .ldBu16 d reg1 reg2 => s.loads (s.reg reg1 + d.signExtend 32) 1 (meiWord reg2 0 true 1 false)
  | .ldBu23 d reg1 reg3 => s.loads (s.reg reg1 + d.signExtend 32) 1 (meiWord reg3 0 true 2 false)
  | .ldDw d reg1 reg3 =>
    if reg3.getLsbD 0 then none else s.loads (s.reg reg1 + (d ++ 0#1).signExtend 32) 8 (meiWord reg3 3 false 2 false)
  | .ldH16 d reg1 reg2 => s.loads (s.reg reg1 + (d ++ 0#1).signExtend 32) 2 (meiWord reg2 1 false 1 false)
  | .ldH23 d reg1 reg3 => s.loads (s.reg reg1 + (d ++ 0#1).signExtend 32) 2 (meiWord reg3 1 false 2 false)
  | .ldHu16 d reg1 reg2 => s.loads (s.reg reg1 + (d ++ 0#1).signExtend 32) 2 (meiWord reg2 1 true 1 false)
  | .ldHu23 d reg1 reg3 => s.loads (s.reg reg1 + (d ++ 0#1).signExtend 32) 2 (meiWord reg3 1 true 2 false)
  | .ldW16 d reg1 reg2 => s.loads (s.reg reg1 + (d ++ 0#1).signExtend 32) 4 (meiWord reg2 2 false 1 false)
  | .ldW23 d reg1 reg3 => s.loads (s.reg reg1 + (d ++ 0#1).signExtend 32) 4 (meiWord reg3 2 false 2 false)
  | .sldB d reg2 => s.loads (s.reg 30 + d.setWidth 32) 1 (meiWord reg2 0 false 0 false)
  | .sldBu d reg2 => s.loads (s.reg 30 + d.setWidth 32) 1 (meiWord reg2 0 true 0 false)
  | .sldH d reg2 => s.loads (s.reg 30 + (d ++ 0#1).setWidth 32) 2 (meiWord reg2 1 false 0 false)
  | .sldHu d reg2 => s.loads (s.reg 30 + (d ++ 0#1).setWidth 32) 2 (meiWord reg2 1 true 0 false)
  | .sldW d reg2 => s.loads (s.reg 30 + (d ++ 0#2).setWidth 32) 4 (meiWord reg2 2 false 0 false)
  | .stB16 d reg1 reg2 => s.stores (s.reg reg1 + d.signExtend 32) 1 (meiWord reg2 0 false 1 true)
  | .stB23 d reg1 reg3 => s.stores (s.reg reg1 + d.signExtend 32) 1 (meiWord reg3 0 false 2 true)
  | .stDw d reg1 reg3 =>
    if reg3.getLsbD 0 then none else s.stores (s.reg reg1 + (d ++ 0#1).signExtend 32) 8 (meiWord reg3 3 false 2 true)
  | .stH16 d reg1 reg2 => s.stores (s.reg reg1 + (d ++ 0#1).signExtend 32) 2 (meiWord reg2 1 false 1 true)
  | .stH23 d reg1 reg3 => s.stores (s.reg reg1 + (d ++ 0#1).signExtend 32) 2 (meiWord reg3 1 false 2 true)
  | .stW16 d reg1 reg2 => s.stores (s.reg reg1 + (d ++ 0#1).signExtend 32) 4 (meiWord reg2 2 false 1 true)
  | .stW23 d reg1 reg3 => s.stores (s.reg reg1 + (d ++ 0#1).signExtend 32) 4 (meiWord reg3 2 false 2 true)
  | .sstB d reg2 => s.stores (s.reg 30 + d.setWidth 32) 1 (meiWord reg2 0 false 0 true)
  | .sstH d reg2 => s.stores (s.reg 30 + (d ++ 0#1).setWidth 32) 2 (meiWord reg2 1 false 0 true)
  | .sstW d reg2 => s.stores (s.reg 30 + (d ++ 0#2).setWidth 32) 4 (meiWord reg2 2 false 0 true)
  | .ldlW reg1 reg3 => s.loads (s.reg reg1) 4 (meiWord reg3 2 false 7 false)
  | .stcW reg1 reg3 => s.stores (s.reg reg1) 4 (meiWord reg3 2 false 7 true)
  | .caxi reg1 _ reg3 => s.modifies (s.reg reg1) 4 (meiWord reg3 2 true 8 false)
  | .set1 _ d reg1 => s.modifies (s.reg reg1 + d.signExtend 32) 1 (meiWord 0 0 true 9 false)
  | .clr1 _ d reg1 => s.modifies (s.reg reg1 + d.signExtend 32) 1 (meiWord 0 0 true 9 false)
  | .not1 _ d reg1 => s.modifies (s.reg reg1 + d.signExtend 32) 1 (meiWord 0 0 true 9 false)
  | .tst1 _ d reg1 => s.loads (s.reg reg1 + d.signExtend 32) 1 (meiWord 0 0 true 9 false)
  | .set1Reg reg1 _ => s.modifies (s.reg reg1) 1 (meiWord 0 0 true 9 false)
  | .clr1Reg reg1 _ => s.modifies (s.reg reg1) 1 (meiWord 0 0 true 9 false)
  | .not1Reg reg1 _ => s.modifies (s.reg reg1) 1 (meiWord 0 0 true 9 false)
  | .tst1Reg reg1 _ => s.loads (s.reg reg1) 1 (meiWord 0 0 true 9 false)
  | .switch reg1 => s.loads (s.pc + 2 + (s.reg reg1 <<< 1)) 2 (meiWord 0 1 false 16 false)
  | .callt imm6 => s.loads (s.sys.ctbp + (imm6 ++ 0#1).setWidth 32) 2 (meiWord 0 1 true 17 false)
  | .syscall vector8 =>
    some ⟨s.sys.scbp + 4 * (if vector8 ≤ s.sys.sccfg.setWidth 8 then vector8 else 0).setWidth 32, 4, true, false, false,
      meiWord 0 2 true 18 false⟩
  | _ => none

/-! ### Acknowledged exceptions -/

/-- A row of Table 4-1 (spec/60_exceptions.md R410): FE level or EI level, the cause code, PSW.EP afterwards, and
whether PSW.EBV is cleared. -/
structure Entry where
  fe : Bool
  code : Word
  ep : Bool
  clearsEbv : Bool

/-- A resumable exception, or FETRAP: FE level with EP = 1. -/
def feEntry (code : Word) : Entry := ⟨true, code, true, false⟩

/-- SYSCALL and TRAP: EI level with EP = 1. -/
def eiEntry (code : Word) : Entry := ⟨false, code, true, false⟩

/-- The handler of the direct vector method: RBASE, or EBASE where the new PSW.EBV is 1, with the low nine bits 0, plus
the offset of Table 4-3 (spec/60_exceptions.md R440). -/
def State.vector (s : State) (ebv : Bool) (offset : Word) : Word :=
  ((if ebv then s.sys.ebase else Product.rbaseWord s.product) &&& 0xFFFFFE00#32) + offset

/-- `t` is `s` after the exception of row `e` was acknowledged with return PC `ret` and handler `handler`, the system
registers having been `y` before the level's three registers were saved (spec/60_exceptions.md R420). -/
def Acknowledged (s t : State) (e : Entry) (y : SysRegs) (ret handler : Word) : Prop :=
  (t.sys =
    if e.fe then { y with fepc := ret, fepsw := s.psw.toWord, feic := e.code }
    else { y with eipc := ret, eipsw := s.psw.toWord, eiic := e.code }) ∧
  t.psw = { s.psw with um := false, id := true, np := s.psw.np || e.fe, ep := e.ep, ebv := s.psw.ebv && !e.clearsEbv } ∧
  t.pc = handler ∧ t.run = .running ∧
  SameRegs s t ∧ SameMemory s t ∧ t.areas = s.areas ∧ t.product = s.product ∧ t.eoi = s.eoi

/-- `i` raises the FE level exception of `code` and `offset` at its own address and has no other effect
(spec/60_exceptions.md R401). -/
def Raises (i : Instr) (s : State) (code offset : Word) : Prop :=
  ∃ t, exec i s = .next t ∧ Acknowledged s t (feEntry code) s.sys s.pc (s.vector s.psw.ebv offset) ∧ t.req = s.req

/-- PMR and ISPR do not mask a request of priority `p` (spec/60_exceptions.md R433). -/
def Unmasked (s : State) (p : BitVec 3) : Prop :=
  s.sys.pmr.getLsbD p.toNat = false ∧ ∀ k ≤ p.toNat, s.sys.ispr.getLsbD k = false

/-- A terminating system error of a code that the product reports stands (spec/60_exceptions.md R412). -/
abbrev SyserrStands (s : State) (c : BitVec 4) : Prop := s.req.syserr = some c ∧ c ∈ s.product.syserrCodes

/-- An EIINT request of a channel that the product has stands (spec/60_exceptions.md R430). -/
abbrev EiintStands (s : State) (r : EiintRequest) : Prop :=
  r ∈ s.req.eiint ∧ r.channel.toNat < s.product.numEiint.val

/-- A terminating request stands, masked or not (spec/60_exceptions.md R461). -/
abbrev RequestStands (s : State) : Prop :=
  s.req.fenmi = true ∨ s.req.feint = true ∨ (∃ c, SyserrStands s c) ∨ ∃ r ∈ s.req.eiint, EiintStands s r

/-- `r` is the EIINT request to be acknowledged: EIINT is enabled, no request of a higher level stands, `r` stands
unmasked, and every other unmasked request has a larger priority number or, at the same priority, a larger channel
number (spec/60_exceptions.md R431, R433). -/
def NextEiint (s : State) (r : EiintRequest) : Prop :=
  s.req.reset = false ∧ s.req.fenmi = false ∧ (∀ c, ¬ SyserrStands s c) ∧ s.req.feint = false ∧
  s.psw.id = false ∧ s.psw.np = false ∧ EiintStands s r ∧ Unmasked s r.priority ∧
  ∀ q ∈ s.req.eiint, EiintStands s q → Unmasked s q.priority →
    q = r ∨ r.priority < q.priority ∨ (r.priority = q.priority ∧ r.channel < q.channel)

/-- The system registers after ISPR has taken the priority `p` (spec/60_exceptions.md R432). -/
def SysRegs.inService (y : SysRegs) (p : BitVec 3) : SysRegs :=
  if y.intcfg.getLsbD 0 then y else { y with ispr := y.ispr ||| (1#32 <<< p.toNat) }

/-- The acknowledgement of the EIINT request `r` with handler `handler` (spec/60_exceptions.md R420, R432). -/
def AcknowledgedEiint (s t : State) (r : EiintRequest) (handler : Word) : Prop :=
  Acknowledged s t ⟨false, 0x1000 + r.channel.setWidth 32, false, false⟩ (s.sys.inService r.priority) s.pc handler ∧
  t.req = { s.req with eiint := s.req.eiint.filter (fun q => q ≠ r) }

/-- PSW with every field that a return writes taken from a word; Debug as before (spec/47_special.md R377). -/
def Psw.ofWord (p : Psw) (w : Word) : Psw :=
  { um := w.getLsbD 30, ebv := w.getLsbD 15, debug := p.debug, np := w.getLsbD 7, ep := w.getLsbD 6,
    id := w.getLsbD 5, sat := w.getLsbD 4, cy := w.getLsbD 3, ov := w.getLsbD 2, s := w.getLsbD 1, z := w.getLsbD 0 }

/-- `w` is `v` with its lowest-numbered set bit cleared (spec/60_exceptions.md R452). -/
def ClearsLowest (v w : Word) : Prop := ∀ k, w.getLsbD k = true ↔ v.getLsbD k = true ∧ ∃ j < k, v.getLsbD j = true

/-- `t` is `s` after a return to `pc` with the PSW word `psw`, ISPR updated where `ei` (spec/60_exceptions.md R452,
spec/47_special.md R377, R378). -/
def Returned (s t : State) (pc psw : Word) (ei : Bool) : Prop :=
  t.pc = pc.even ∧ t.psw = s.psw.ofWord psw ∧ t.sys = { s.sys with ispr := t.sys.ispr } ∧
  (if ei = true ∧ s.psw.ep = false ∧ s.sys.intcfg.getLsbD 0 = false then ClearsLowest s.sys.ispr t.sys.ispr
    else t.sys.ispr = s.sys.ispr) ∧
  t.eoi = (if s.psw.ep then s.eoi else s.eoi + 1) ∧
  SameRegs s t ∧ SameMemory s t ∧ t.areas = s.areas ∧ t.run = s.run ∧ t.req = s.req ∧ t.product = s.product

/-! ### Block transfers -/

/-- `t` is `s` after a block transfer whose word access at `a` was refused, but for the words transferred before it:
MDP with the BL bit, and the stack pointer and every other register the block does not load as before
(spec/47_special.md R375 (c), spec/20_memory.md R123, R124). -/
def BlockRefused (s t : State) (a : Word) (itype : BitVec 5) (write : Bool) : Prop :=
  t.sys = { s.sys with
    mea := a
    mei := meiWord 0 2 true itype write
    fepc := s.pc
    fepsw := s.psw.toWord
    feic := 0x00800091#32 ||| (if s.psw.um then (if write then 0x00020000 else 0x00010000)
      else (if write then 0x00100000 else 0x00080000)) } ∧
  t.psw = { s.psw with um := false, id := true, np := true, ep := true } ∧
  t.pc = s.vector s.psw.ebv 0x090 ∧ t.run = .running ∧
  t.areas = s.areas ∧ t.req = s.req ∧ t.product = s.product ∧ t.eoi = s.eoi

/-- The words of the registers `rs` lie below `top`, the first just below it, each at a multiple of 4; no other byte
differs (spec/47_special.md R373, R374, R375 (a)). -/
def Pushed (s t : State) (top : Word) (rs : List Reg) : Prop :=
  (∀ k (h : k < rs.length), Holds t (stackAddr (top - 4 * BitVec.ofNat 32 (k + 1))) ((s.reg rs[k]).setWidth 64) 4) ∧
  SameMemoryBut s t (stackAddr (top - 4 * BitVec.ofNat 32 rs.length)) (4 * rs.length)

/-- The words for the first `n` stores of a block below `top` may be written. -/
def CanPush (s : State) (top : Word) (n : Nat) : Prop :=
  ∀ k < n, CanWrite s (stackAddr (top - 4 * BitVec.ofNat 32 (k + 1))) 4

/-- The words for the first `n` loads of a block from `bottom` up may be read. -/
def CanPop (s : State) (bottom : Word) (n : Nat) : Prop :=
  ∀ k < n, CanRead s s.psw.um (stackAddr (bottom + 4 * BitVec.ofNat 32 k)) 4

/-- What register `r` holds after the registers `rs` were loaded from `bottom` up, each but r0 and the stack pointer
with its word (spec/47_special.md R370, R372). -/
def popped (s : State) (bottom : Word) : List Reg → Reg → Word
  | [], r => s.reg r
  | q :: rest, r =>
    if r = q ∧ r ≠ 0 ∧ r ≠ 3 then s.wordAt (stackAddr bottom) else popped s (bottom + 4) rest r

/-! ### System registers -/

/-- The bits of a system register that LDSR writes in the mode of `s`: R/W in its table (spec/10_state.md R40 to R81),
and for PSW in user mode the five flags alone (R45). -/
def State.writable (s : State) : SysReg → Word
  | .eipc | .fepc | .eiic | .feic | .ctpc | .eiwr | .fewr | .mea => 0xFFFFFFFF
  | .eipsw | .fepsw => 0x40078EFF
  | .psw => if s.psw.um then 0x0000001F else 0x400080FF
  | .ctpsw => 0x0000001F
  | .ctbp => 0xFFFFFFFE
  | .mcfg0 => (2#32 ^ (s.product.spidWidth.val + 1) - 1) <<< 16
  | .ebase => 0xFFFFFE01
  | .intbp => 0xFFFFFE00
  | .mctl => if s.product.maWritable then 0x00000003 else 0x00000001
  | .sccfg => 0x000000FF
  | .scbp => 0xFFFFFFFC
  | .asid => 0x000003FF
  | .mei => 0x001F073F
  | .ispr => if s.sys.intcfg.getLsbD 0 then 0x000000FF else 0
  | .pmr => 0x000000FF
  | .intcfg => 0x00000001
  | .mpm => if s.product.svpWritable then 0x00000703 else 0x00000701
  | .area .mpla _ | .area .mpua _ => 0xFFFFFFFC
  | .area .mpat _ => if s.product.svpWritable && s.product.mpatSWritable then 0x03FF00FF else 0x03FF00C7
  | .bsel | .rbase | .pid | .htcfg0 | .icsr | .mprc | .mpbrgn | .mptrgn | .mcr => 0

/-- `STSR regID, reg2, selID` reads `v`, for every reg2 (spec/47_special.md R386). -/
def Reads (s : State) (regID selID : BitVec 5) (v : Word) : Prop :=
  ∀ reg2, Computes (.stsr regID reg2 selID) s 4 reg2 v s.psw

/-! ### Steps and legal states -/

/-- The `n` bytes from the program counter on. -/
def State.codeBytes (s : State) (n : Nat) : List Byte := (List.range n).map (fun k => s.byteAt (s.pc + BitVec.ofNat 32 k))

/-- No terminating exception can be acknowledged (spec/60_exceptions.md R431, R433). -/
def NothingToAcknowledge (s : State) : Prop :=
  s.req.fenmi = false ∧ (∀ c, ¬ SyserrStands s c) ∧ (s.req.feint = false ∨ s.psw.np = true) ∧
  ∀ r ∈ s.req.eiint, EiintStands s r → s.psw.id = true ∨ s.psw.np = true ∨ s.sys.pmr.getLsbD r.priority.toNat = true ∨
    ∃ k ≤ r.priority.toNat, s.sys.ispr.getLsbD k = true

/-- The core runs, no reset is asserted and nothing is to be acknowledged: the step runs the instruction at the program
counter. -/
def RunsNext (s : State) : Prop := s.req.reset = false ∧ s.run = .running ∧ NothingToAcknowledge s

/-- `fetch_error(a)` is the code 10H + `c`: the memory map gives it, and the product reports it
(spec/60_exceptions.md R412). -/
abbrev FetchErrorAt (s : State) (a : Word) (c : BitVec 4) : Prop :=
  (Product.regionAt s.product a).bind Region.fetchError = some c ∧ c ∈ s.product.syserrCodes

/-- The next `n` bytes may be fetched: executable, without a fetch error, memory, and none of them stored since the last
SYNCI sequence (spec/20_memory.md R121, R142; spec/60_exceptions.md R412). -/
def Fetchable (s : State) (n : Nat) : Prop :=
  s.mpuAllowsAll s.psw.um .execute s.pc n = true ∧
  (∀ k < n, ∀ c, ¬ FetchErrorAt s (s.pc + BitVec.ofNat 32 k) c) ∧ s.plainAll s.pc n = true ∧
  ∀ e ∈ s.stale, n ≤ (e.addr - s.pc).toNat

/-- The reserved bits of the system registers are 0, and the fixed ones as the spec says (spec/10_state.md R40 to
R74). -/
def SysRegs.legal (y : SysRegs) : Bool :=
  y.eipsw &&& ~~~savedPswMask == 0 && y.fepsw &&& ~~~savedPswMask == 0 && y.ctpsw &&& 0xFFFFFFE0#32 == 0 &&
  !y.ctbp.getLsbD 0 && y.mcfg0 &&& 0xFF00FFFF#32 == 4#32 && y.ebase &&& 0x000001FE#32 == 0 &&
  y.intbp &&& 0x000001FF#32 == 0 && y.mctl &&& 0xFFFFFFFC#32 == 0x80000000#32 && y.sccfg &&& 0xFFFFFF00#32 == 0 &&
  y.scbp &&& 3#32 == 0 && y.asid &&& 0xFFFFFC00#32 == 0 && y.mei &&& 0xFFE0F8C0#32 == 0 &&
  y.ispr &&& 0xFFFFFF00#32 == 0 && y.pmr &&& 0xFFFFFF00#32 == 0 && y.intcfg &&& 0xFFFFFFFE#32 == 0 &&
  y.mpm &&& 0xFFFFF8FC#32 == 0

/-- The reserved bits of the registers of a protection area are 0 (spec/10_state.md R79 to R81). -/
def Area.legal (a : Area) : Bool :=
  a.mpla &&& 3#32 == 0 && a.mpua &&& 3#32 == 0 && a.mpat &&& 0xFC00FF00#32 == 0

/-- A legal state: memory in canonical form, the program counter even, the Debug field 0, every reserved bit 0. -/
def State.legal (s : State) : Bool :=
  s.mem.wf && !s.pc.getLsbD 0 && s.psw.debug == 0 && s.sys.legal && s.areas.all Area.legal

end Sys2Proof.Machine
end

