-- ==== Sys2Proof/Certificates/Slice0/Obligations.lean ====
section
/-!
DEFINITION. The statements for the provers. Each says what the model does in the words of the spec; the vocabulary is
Sys2Proof/Safety.lean's.
-/
open Sys2Proof Sys2Proof.Machine

/-- For every well-formed instruction of the table and every list of further bytes: decoding the bytes of its
encoding followed by those bytes gives the instruction and those bytes. Every operand ranges over all values the
encoding admits. (rests on spec/30_encoding.md, rules R160, R161 and R180 to R186). -/
def Obligations.DecodeOfEncode : Prop :=
  ∀ (i : Instr) (rest : List Byte), i.wellFormed = true → decode (bytesOf (encode i) ++ rest) = .ok (i, rest)

/-- For every list of bytes that decodes to an instruction and a rest: the instruction is well formed and the list is
the bytes of its encoding followed by the rest. So no bit of an accepted pattern is ignored, and no two patterns are
the same instruction. (rests on spec/30_encoding.md, rules R160, R161, R177 to R186). -/
def Obligations.EncodeOfDecode : Prop :=
  ∀ (bs rest : List Byte) (i : Instr), decode bs = .ok (i, rest) →
    i.wellFormed = true ∧ bs = bytesOf (encode i) ++ rest

/-- The halfwords the spec prints as examples of LD.B, LD.DW, MUL, SATADD, BINS, BNE disp17, CLR1, PREPARE with
imm32, and SYSCALL decode to those instructions with those operands. (rests on spec/40_load_store.md, the examples of
rules R201 and R203; spec/41_arithmetic.md, the example of rule R251; spec/42_saturated_logical.md, the example of
rule R281; spec/43_data_manipulation.md, the example of rule R301; spec/45_branch_loop.md, the example of rule R341;
spec/46_bit_manipulation.md, the example of rule R356; spec/47_special.md, the examples of rules R373 and R397). -/
def Obligations.DecodesSpecWords : Prop :=
  decode (bytesOf [0x5F0A#16, 0xFFFC#16]) = .ok (.ldB16 0xFFFC 10 11, []) ∧
  decode (bytesOf [0x07A2#16, 0x2089#16, 0x0000#16]) = .ok (.ldDw 4 2 4, []) ∧
  decode (bytesOf [0x17FD#16, 0x1A7C#16]) = .ok (.mulImm 0x1FD 2 3, []) ∧
  decode (bytesOf [0x17E1#16, 0x1BBA#16]) = .ok (.satadd3 1 2 3, []) ∧
  decode (bytesOf [0x17E1#16, 0xB0D8#16]) = .ok (.binsLl 1 11 4 2, []) ∧
  decode (bytesOf [0x07EA#16, 0x1001#16]) = .ok (.bcond17 .nz 0x0800, []) ∧
  decode (bytesOf [0x9FC1#16, 0x0010#16]) = .ok (.clr1 3 0x0010 1, []) ∧
  decode (bytesOf [0x0788#16, 0x007B#16, 0x5678#16, 0x1234#16]) = .ok (.prepareImm32 4 6 0x12345678, []) ∧
  decode (bytesOf [0xD7E5#16, 0x0960#16]) = .ok (.syscall 0x25, [])

/-- From every state in which memory has its canonical form, bit 0 of the PC is 0, the Debug field of PSW is 0 (the
model's choice, log 16), the reserved bits of every system register and of every protection area read as their tables
say: whatever a step answers as its next state is such a state again. (rests on spec/10_state.md, rules R24, R36 and
R40 to R82; spec/60_exceptions.md, rules R420 and R450; spec/92_eei_decisions.md, D20). -/
def Obligations.StepKeepsLegal : Prop :=
  ∀ s t : State, s.legal = true → step s = .next t → t.legal = true

/-- State.reset is legal; and so is the state after reset of every product with every memory in canonical form. It
rests on the reset values that the model names (logs 7 to 10, 15). (rests on spec/10_state.md, rules R36 and R85;
notes/assumptions/7.md to 10.md, 15.md and 16.md). -/
def Obligations.ResetLegal : Prop :=
  State.reset.legal = true ∧ ∀ (p : Product) (m : Memory), m.wf = true → (State.resetOf p m).legal = true

/-- In every state with the reset input asserted the step answers a next state with the values of the reset table: PC
the reset vector, PSW 00000020H (decision D12, log 15), EIPSW and FEPSW 00000020H, EIIC, FEIC, CTPSW, ISPR, PMR,
INTCFG, MPM 0, MCTL 80000000H, MCFG0 with the product's SPID, every protection area disabled, no request pending,
running; r0 reads 0. The parameters of the product stand, and every byte of memory is kept (the model's choice, log
13). (rests on spec/70_reset_and_hazards.md, rules R480 to R483; spec/10_state.md, rule R85;
spec/92_eei_decisions.md, D12; notes/assumptions/13.md and 15.md). -/
def Obligations.ResetInputResets : Prop :=
  ∀ s : State, s.req.reset = true → ∃ t, step s = .next t ∧
    t.pc = (s.product.rbase ++ 0#9 : BitVec 32) ∧ t.psw.toWord = 0x00000020 ∧
    t.sys.eipsw = 0x00000020 ∧ t.sys.fepsw = 0x00000020 ∧ t.sys.eiic = 0 ∧ t.sys.feic = 0 ∧ t.sys.ctpsw = 0 ∧
    t.sys.ispr = 0 ∧ t.sys.pmr = 0 ∧ t.sys.intcfg = 0 ∧ t.sys.mpm = 0 ∧ t.sys.mctl = 0x80000000 ∧
    t.sys.mcfg0 = ((s.product.spidReset.setWidth 32 % (2#32 ^ (s.product.spidWidth.val + 1))) <<< 16) + 4 ∧
    (∀ n : BitVec 4, (t.area n).mpat.getLsbD 7 = false) ∧ t.reg 0 = 0 ∧
    t.req = Requests.none ∧ t.run = .running ∧ t.product = s.product ∧ SameMemory s t

/-- When the core runs, no reset is asserted, no terminating exception can be acknowledged, and the bytes from the PC
on, executable, without a fetch error, in memory and not stored since the last SYNCI sequence, decode to an
instruction: step is exec of that instruction at that state. Nothing is added around it: each meaning advances the PC
itself. A request of a code or a channel that the product does not have does not count (logs 12 and 47). (rests on
spec/60_exceptions.md, rule R400; spec/30_encoding.md, rule R186; spec/20_memory.md, rules R121 and R142;
notes/assumptions/12.md and 47.md). -/
def Obligations.StepRunsDecodedInstruction : Prop :=
  ∀ (s : State) (n : Nat) (i : Instr) (rest : List Byte),
    RunsNext s → Fetchable s n → decode (s.codeBytes n) = .ok (i, rest) → step s = exec i s

/-- When the core runs, nothing is to be acknowledged, and the bytes at the PC may be fetched but decode to no
instruction and to no prohibited pattern: where none of the patterns the product gives to coprocessors matches the
first two halfwords, the step acknowledges RIE at that PC (code 60H, offset 060H); where the first that matches is
one of coprocessor n, UCPOP (code 80H + n, offset 080H). Nothing else changes. That such a pattern raises RIE is
decision D18; that the second halfword counts as 0 for a pattern of one halfword, and that the first match decides,
is the model's choice (log 21). A request of a code or a channel that the product does not have does not count (logs
12 and 47). (rests on spec/30_encoding.md, rules R179 and R185; spec/47_special.md, rule R383;
spec/92_eei_decisions.md, D18; notes/assumptions/12.md, 21.md and 47.md). -/
def Obligations.UndefinedPatternRaisesReserved : Prop :=
  ∀ (s : State) (n : Nat), RunsNext s → Fetchable s n → decode (s.codeBytes n) = .error .undefined →
    let h1 := s.halfAt s.pc
    let h2 := if instrLength h1 (s.halfAt (s.pc + 2)) = 2 then 0 else s.halfAt (s.pc + 2)
    let fits (p : CoproPattern) : Prop := (h2 ++ h1 : Word) &&& p.mask = p.value &&& p.mask
    ((∀ p ∈ s.product.copro, ¬ fits p) →
      ∃ t, step s = .next t ∧ Acknowledged s t (feEntry 0x60) s.sys s.pc (s.vector s.psw.ebv 0x060) ∧ t.req = s.req) ∧
    (∀ ps p qs, s.product.copro = ps ++ p :: qs → (∀ q ∈ ps, ¬ fits q) → fits p →
      ∃ t, step s = .next t ∧
        Acknowledged s t (feEntry (0x80 + BitVec.ofNat 32 p.cu.val)) s.sys s.pc (s.vector s.psw.ebv 0x080) ∧
        t.req = s.req)

/-- The core runs and nothing is to be acknowledged. (a) On every range of the memory map, stored bytes or not: where
one of the two bytes at the PC may not be executed in the current mode, the step acknowledges MIP (code 90H, offset
090H) with the PC saved, MEA the PC, MEI as before; where the eight bytes from the PC on may be executed and one of
those two has a fetch error 10H + c, it acknowledges SYSERR (that code, offset 010H from RBASE, EBV cleared: D16, log
29) with the PC saved, MEA and MEI as before. (b) Where the L bytes of the instruction at the PC are memory and not
stored since the last SYNCI sequence: MIP where any of the L may not be executed; else SYSERR where any of the L has
a fetch error. None of it depends on what the bytes decode to. Every byte counts by decision D24 (log 28); of several
fetch errors the first byte's is taken by the model's choice (log 12); MIP comes before a fetch error by R415 (log
45). A request of a code or a channel that the product does not have does not count (logs 12 and 47). (rests on
spec/20_memory.md, rules R117, R121, R125 and R142; spec/60_exceptions.md, rules R400, R412 and R415;
spec/92_eei_decisions.md, D9 to D11, D16 and D24; notes/assumptions/12.md, 20.md, 28.md, 29.md, 45.md and 47.md). -/
def Obligations.ExecutionProtectionRaisesMip : Prop :=
  ∀ s : State, RunsNext s →
    let mip : Prop := ∃ t, step s = .next t ∧
      Acknowledged s t (feEntry 0x90) { s.sys with mea := s.pc } s.pc (s.vector s.psw.ebv 0x090) ∧ t.req = s.req
    let syserr (n : Nat) : Prop := ∀ k < n, ∀ c, FetchErrorAt s (s.pc + BitVec.ofNat 32 k) c →
      (∀ j < k, ∀ d, ¬ FetchErrorAt s (s.pc + BitVec.ofNat 32 j) d) →
      ∃ t, step s = .next t ∧
        Acknowledged s t ⟨true, 0x10 + c.setWidth 32, true, true⟩ s.sys s.pc (s.vector false 0x010) ∧ t.req = s.req
    (s.mpuAllowsAll s.psw.um .execute s.pc 2 = false → mip) ∧
    (s.mpuAllowsAll s.psw.um .execute s.pc 8 = true → syserr 2) ∧
    ∀ n, n = instrLength (s.halfAt s.pc) (s.halfAt (s.pc + 2)) →
      s.plainAll s.pc n = true → (∀ e ∈ s.stale, n ≤ (e.addr - s.pc).toNat) →
      (s.mpuAllowsAll s.psw.um .execute s.pc n = false → mip) ∧
      (s.mpuAllowsAll s.psw.um .execute s.pc n = true → syserr n)

/-- With no reset asserted: a FENMI request is acknowledged whatever PSW is (code E0H, offset 0E0H, EP 0); else a
system error request of a code 10H + c that the product reports (that code, offset 010H, EP 1, EBV cleared, so the
handler is based on RBASE); else a FEINT request where NP = 0 (code F0H, offset 0F0H, EP 0). FEPC takes the PC, FEPSW
the old PSW, the request is removed (R432, decision D32: logs 17 and 32), a halted or snoozing core runs again. PSW
after it follows the spec's decisions D15 and D16 (log 29); a system error of a code the product does not report does
not count (D9, log 12). (rests on spec/60_exceptions.md, rules R410, R412, R415, R420, R431, R432, R440;
spec/92_eei_decisions.md, D9, D15, D16 and D32; notes/assumptions/12.md, 17.md, 29.md and 32.md). -/
def Obligations.FeLevelRequestsAcknowledged : Prop :=
  ∀ s : State, s.req.reset = false →
    (s.req.fenmi = true → ∃ t, step s = .next t ∧
      Acknowledged s t ⟨true, 0xE0, false, false⟩ s.sys s.pc (s.vector s.psw.ebv 0x0E0) ∧
      t.req = { s.req with fenmi := false }) ∧
    (s.req.fenmi = false → ∀ c, SyserrStands s c → ∃ t, step s = .next t ∧
      Acknowledged s t ⟨true, 0x10 + c.setWidth 32, true, true⟩ s.sys s.pc (s.vector false 0x010) ∧
      t.req = { s.req with syserr := none }) ∧
    (s.req.fenmi = false → (∀ c, ¬ SyserrStands s c) → s.req.feint = true → s.psw.np = false → ∃ t, step s = .next t ∧
      Acknowledged s t ⟨true, 0xF0, false, false⟩ s.sys s.pc (s.vector s.psw.ebv 0x0F0) ∧
      t.req = { s.req with feint := false })

/-- Where an EIINT request of a channel the product has is the next one (enabled, unmasked, before every other
unmasked one in priority and then in channel, the tie-break being decision D32, log 32) and its handler is not read
from the table: the step acknowledges it with code 1000H + channel, EP 0, the handler at offset 100H + 10H x priority
of the base in use, or 100H where the base's RINT is 1; ISPR takes the bit of its priority unless INTCFG.ISPC is 1;
the request is removed (D32 too, log 17). PSW after it follows D15 (log 29). A request of a code or a channel that
the product does not have does not count (logs 12 and 47). (rests on spec/60_exceptions.md, rules R420, R431 to R433,
R440 and R442; spec/92_eei_decisions.md, D9, D10, D15 and D32; notes/assumptions/12.md, 17.md, 29.md, 32.md and
47.md). -/
def Obligations.EiintDirectVector : Prop :=
  ∀ (s : State) (r : EiintRequest), NextEiint s r →
    let b := if s.psw.ebv then s.sys.ebase else s.product.rbase ++ 0#8 ++ BitVec.ofBool s.product.rint
    r.channel ∉ s.product.tableChannels ∨ b.getLsbD 0 = true →
    ∃ t, step s = .next t ∧
      AcknowledgedEiint s t r
        ((b &&& 0xFFFFFE00#32) + (if b.getLsbD 0 then 0x100 else 0x100 + 0x10 * r.priority.setWidth 32))

/-- Where the next EIINT request uses the table (the product sets its channel so and the RINT of the base in use is
0) and the word at INTBP + 4 x channel may be read in supervisor mode: it is acknowledged with that word, bit 0
dropped, as the handler, and removed (decision D32, logs 17 and 32; the next request by its tie-break). Where the
protection unit refuses that read: MDP is acknowledged in its place (code 00080091H with EP 1, MEA the address, MEI
the row of the interrupt with REG = 0, where Table 3-21 prints none: decision D22, log 33), the request stays, EIPC,
EIPSW, EIIC and ISPR are as before (decision D33, log 32). PSW after either follows D15 (log 29). A request of a code
or a channel that the product does not have does not count (logs 12 and 47). (rests on spec/60_exceptions.md, rules
R420, R431 to R433, R442 and R443; spec/10_state.md, rule R61; spec/20_memory.md, rule R118;
spec/92_eei_decisions.md, D9, D10, D15, D22, D32 and D33; notes/assumptions/12.md, 17.md, 29.md, 32.md, 33.md and
47.md). -/
def Obligations.EiintTableReference : Prop :=
  ∀ (s : State) (r : EiintRequest), NextEiint s r → r.channel ∈ s.product.tableChannels →
    (if s.psw.ebv then s.sys.ebase.getLsbD 0 else s.product.rint) = false →
    let a := s.sys.intbp + 4 * r.channel.setWidth 32
    (CanRead s false a 4 → ∃ t, step s = .next t ∧ AcknowledgedEiint s t r (s.wordAt a).even) ∧
    (s.maeApplies a 4 = false → misaligned a 4 = false → s.mpuAllowsAll false .read a 4 = false →
      ∃ t, step s = .next t ∧
        Acknowledged s t (feEntry 0x00080091) { s.sys with mea := a, mei := meiWord 0 2 true 21 false } s.pc
          (s.vector s.psw.ebv 0x090) ∧
        t.req = s.req)

/-- For every halted state without reset: where FENMI, FEINT, a system error or any EIINT request stands, the step is
the step of the same state with the core running (so the request is acknowledged with the PC of the instruction after
HALT, or the program goes on); where none stands, the step changes nothing (R460, R462). A step with the reset input
leaves the core running. R461 asks for any request at the inputs; that one of a code or a channel the product does
not have is none, and so releases nothing, is the model's choice (D9, D10, logs 12 and 47). (rests on
spec/60_exceptions.md, rules R460 to R462; spec/92_eei_decisions.md, D9 and D10; notes/assumptions/12.md, 17.md and
47.md). -/
def Obligations.HaltRelease : Prop :=
  ∀ s : State, s.run = .halted →
    (s.req.reset = false → RequestStands s → step s = step { s with run := .running }) ∧
    (s.req.reset = false → ¬ RequestStands s → step s = .next s) ∧
    (s.req.reset = true → ∃ t, step s = .next t ∧ t.run = .running)

/-- The period in steps is the model's choice (log 18). For every snoozing state without reset: with the period over,
or with a terminating request, the step is the step of the same state running; else one step of the period passes and
nothing else changes. That a request of a code or a channel the product does not have is none, and so releases
nothing, is the model's choice (D9, D10, logs 12 and 47). (rests on spec/60_exceptions.md, rules R460, R461 and R463;
spec/92_eei_decisions.md, D8 to D10; notes/assumptions/12.md, 17.md, 18.md and 47.md). -/
def Obligations.SnoozeRelease : Prop :=
  ∀ (s : State) (n : Nat), s.req.reset = false → s.run = .snoozing n →
    (n = 0 ∨ RequestStands s → step s = step { s with run := .running }) ∧
    (∀ k, n = k + 1 → ¬ RequestStands s → step s = .next { s with run := .snoozing k })

/-- For LD.B, LD.BU, LD.H, LD.HU, LD.W (both forms of each), LD.DW with an even reg3, SLD.B, SLD.BU, SLD.H, SLD.HU,
SLD.W and LDL.W, where the bytes at the effective address may be read: exec answers a next state with the
little-endian value, sign- or zero-extended, in the destination (r0 discards it; LD.DW writes the pair), the PC past
the instruction, and every other register, flag, special register and byte of memory as before. (rests on
spec/40_load_store.md, rules R200 to R211; spec/47_special.md, rule R381; spec/20_memory.md, rules R100 and R120). -/
def Obligations.LoadsComplete : Prop :=
  ∀ (s : State) (i : Instr) (x : DataAccess), s.dataAccess i = some x → CanRead s x.um x.addr x.size →
    match i with
    | .ldB16 _ _ r => Computes i s 4 r ((s.byteAt x.addr).signExtend 32) s.psw
    | .ldB23 _ _ r => Computes i s 6 r ((s.byteAt x.addr).signExtend 32) s.psw
    | .ldBu16 _ _ r => Computes i s 4 r ((s.byteAt x.addr).setWidth 32) s.psw
    | .ldBu23 _ _ r => Computes i s 6 r ((s.byteAt x.addr).setWidth 32) s.psw
    | .ldH16 _ _ r => Computes i s 4 r ((s.halfAt x.addr).signExtend 32) s.psw
    | .ldH23 _ _ r => Computes i s 6 r ((s.halfAt x.addr).signExtend 32) s.psw
    | .ldHu16 _ _ r => Computes i s 4 r ((s.halfAt x.addr).setWidth 32) s.psw
    | .ldHu23 _ _ r => Computes i s 6 r ((s.halfAt x.addr).setWidth 32) s.psw
    | .ldW16 _ _ r => Computes i s 4 r (s.wordAt x.addr) s.psw
    | .ldW23 _ _ r => Computes i s 6 r (s.wordAt x.addr) s.psw
    | .ldlW _ r => Computes i s 4 r (s.wordAt x.addr) s.psw
    | .sldB _ r => Computes i s 2 r ((s.byteAt x.addr).signExtend 32) s.psw
    | .sldBu _ r => Computes i s 2 r ((s.byteAt x.addr).setWidth 32) s.psw
    | .sldH _ r => Computes i s 2 r ((s.halfAt x.addr).signExtend 32) s.psw
    | .sldHu _ r => Computes i s 2 r ((s.halfAt x.addr).setWidth 32) s.psw
    | .sldW _ r => Computes i s 2 r (s.wordAt x.addr) s.psw
    | .ldDw _ _ r => Completes i s 6 fun t =>
        RegsAre s t r (s.wordAt x.addr) (r + 1) (s.wordAt (x.addr + 4)) ∧ t.psw = s.psw ∧ SameMemory s t
    | _ => True

/-- For ST.B, ST.H, ST.W (both forms of each), ST.DW with an even reg3, SST.B, SST.H, SST.W and STC.W, where the
bytes at the effective address may be written: exec answers a next state in which exactly those bytes hold the low
bytes of the register (ST.DW: of the pair), little-endian; every register, flag, special register and other byte of
memory is as before. (rests on spec/40_load_store.md, rules R200 and R212 to R218; spec/47_special.md, rule R392;
spec/20_memory.md, rules R100 and R120). -/
def Obligations.StoresComplete : Prop :=
  ∀ (s : State) (i : Instr) (x : DataAccess), s.dataAccess i = some x → CanWrite s x.addr x.size →
    match i with
    | .stB16 _ _ r => Stores i s 4 x.addr ((s.reg r).setWidth 64) 1
    | .stB23 _ _ r => Stores i s 6 x.addr ((s.reg r).setWidth 64) 1
    | .stH16 _ _ r => Stores i s 4 x.addr ((s.reg r).setWidth 64) 2
    | .stH23 _ _ r => Stores i s 6 x.addr ((s.reg r).setWidth 64) 2
    | .stW16 _ _ r => Stores i s 4 x.addr ((s.reg r).setWidth 64) 4
    | .stW23 _ _ r => Stores i s 6 x.addr ((s.reg r).setWidth 64) 4
    | .stcW _ r => Stores i s 4 x.addr ((s.reg r).setWidth 64) 4
    | .sstB _ r => Stores i s 2 x.addr ((s.reg r).setWidth 64) 1
    | .sstH _ r => Stores i s 2 x.addr ((s.reg r).setWidth 64) 2
    | .sstW _ r => Stores i s 2 x.addr ((s.reg r).setWidth 64) 4
    | .stDw _ _ r => Stores i s 6 x.addr (s.reg (r + 1) ++ s.reg r) 8
    | _ => True

/-- The manual prohibits these and gives them no behaviour; the spec has the model refuse them (logs 22 and 23).
LD.DW and ST.DW with an odd reg3, for every state; LDSR in supervisor mode to one of the seven numbers, for every
state; and at the fetch, where nothing is to be acknowledged, BR disp17, LOOP with r0, DIVH with r0 and reg2 = r16 to
r31, JARL [reg1] with reg3 = r0. A request of a code or a channel that the product does not have does not count (logs
12 and 47). (rests on spec/30_encoding.md, rule R178; spec/10_state.md, rule R35; spec/93_implementation_defined.md,
U3, U4 and U11; spec/92_eei_decisions.md, D14; notes/assumptions/12.md, 22.md, 23.md and 47.md). -/
def Obligations.ProhibitedOperandsRefused : Prop :=
  (∀ (s : State) (d : BitVec 22) (reg1 reg3 : Reg), reg3.getLsbD 0 = true →
    exec (.ldDw d reg1 reg3) s = .refused .oddRegisterPair ∧ exec (.stDw d reg1 reg3) s = .refused .oddRegisterPair) ∧
  (∀ (s : State) (reg2 : Reg), s.psw.um = false →
    ∀ n ∈ [((10, 1) : BitVec 5 × BitVec 5), (13, 1), (14, 1), (15, 1), (16, 1), (5, 2), (20, 5)],
      exec (.ldsr reg2 n.1 n.2) s = .refused .prohibitedSystemRegister) ∧
  ∀ (s : State) (n : Nat), RunsNext s → Fetchable s n →
    (decode (s.codeBytes n) = .error .prohibitedBranchAlways17 → step s = .refused .prohibitedBranchAlways17) ∧
    (decode (s.codeBytes n) = .error .prohibitedLoopR0 → step s = .refused .prohibitedLoopR0) ∧
    (decode (s.codeBytes n) = .error .prohibitedDivhR0 → step s = .refused .prohibitedDivhR0) ∧
    (decode (s.codeBytes n) = .error .prohibitedJarlR0 → step s = .refused .prohibitedJarlR0)

/-- For every instruction that makes one data access: where that access is misaligned and the hardware does not
perform it, exec answers the state after the MAE exception: FE level, code C0H, FEPC the instruction itself, FEPSW
the old PSW, MEA the operand address, MEI the row of the instruction, the handler at offset 0C0H; no general
register, flag or byte of memory is changed, and the double-access CAXI makes no read. When the hardware performs
such an access is decision D6 (log 6); that MAE comes first, whatever the protection unit says, is D23 (log 28);
MEI.REG = 0 in the rows where Table 3-21 prints none is D22 (log 33). (rests on spec/20_memory.md, rules R104, R106
and R120; spec/10_state.md, rule R61; spec/92_eei_decisions.md, D6, D22 and D23; notes/assumptions/6.md, 28.md and
33.md). -/
def Obligations.MisalignedAccessRaises : Prop :=
  ∀ (s : State) (i : Instr) (x : DataAccess), s.dataAccess i = some x → s.maeApplies x.addr x.size = true →
    ∃ t, exec i s = .next t ∧
      Acknowledged s t (feEntry 0xC0) { s.sys with mea := x.addr, mei := x.mei } s.pc (s.vector s.psw.ebv 0x0C0) ∧
      t.req = s.req ∧ t.stale = s.stale

/-- For every state and address: an access of one byte never raises MAE; one of 2 or 4 bytes at an address that is
not its multiple does where MCTL.MA is 0, or where the product's hardware does not perform it; one of 8 bytes does
exactly where the low two address bits are not 0, whatever MCTL.MA is. The accesses of SWITCH, CALLT and SYSCALL
never do in a legal state. What a product performs is its parameter (decision D6, log 6). (rests on
spec/20_memory.md, rules R104 and R105; spec/92_eei_decisions.md, D6; notes/assumptions/6.md). -/
def Obligations.AlignmentRule : Prop :=
  ∀ (s : State) (a : Word),
    s.maeApplies a 1 = false ∧
    (s.maeApplies a 2 = true ↔ a.toNat % 2 ≠ 0 ∧
      (s.sys.mctl.getLsbD 1 = false ∨ ∃ r ∈ s.product.misalignTraps, r.bytes = 2 ∧ r.lo ≤ a ∧ a ≤ r.hi)) ∧
    (s.maeApplies a 4 = true ↔ a.toNat % 4 ≠ 0 ∧
      (s.sys.mctl.getLsbD 1 = false ∨ ∃ r ∈ s.product.misalignTraps, r.bytes = 4 ∧ r.lo ≤ a ∧ a ≤ r.hi)) ∧
    (s.maeApplies a 8 = true ↔ a.toNat % 4 ≠ 0) ∧
    (s.legal = true → ∀ i x, s.dataAccess i = some x →
      (∃ r, i = .switch r) ∨ (∃ k, i = .callt k) ∨ (∃ v, i = .syscall v) → s.maeApplies x.addr x.size = false)

/-- For every instruction that makes one data access, past the alignment check: where a byte it reads or a byte it
writes is refused in the mode of the check, exec answers the state after MDP: FE level, offset 090H, FEPC the
instruction itself, MEA the operand address, MEI the row of the instruction, and in FEIC above 0091H the MS bit (a
misaligned access), the RMW bit (SET1, CLR1, NOT1, CAXI) and, in the mode of the check, the read and the write bit of
what was refused. Alignment first, every byte and both kinds before the read are decisions D23 to D25 (log 28);
MEI.REG = 0 in the rows where Table 3-21 prints none (SET1, CLR1, NOT1, TST1, SWITCH, CALLT, SYSCALL) is D22 (log
33). (rests on spec/20_memory.md, rules R118 and R120 to R124; spec/10_state.md, rule R61; spec/92_eei_decisions.md,
D22 to D25; notes/assumptions/28.md and 33.md). -/
def Obligations.RefusedAccessRaises : Prop :=
  ∀ (s : State) (i : Instr) (x : DataAccess), s.dataAccess i = some x → s.maeApplies x.addr x.size = false →
    let r := x.reads && !s.mpuAllowsAll x.um .read x.addr x.size
    let w := x.writes && !s.mpuAllowsAll x.um .write x.addr x.size
    (r || w) = true →
    ∃ t, exec i s = .next t ∧
      Acknowledged s t
        (feEntry (0#7 ++ BitVec.ofBool (misaligned x.addr x.size) ++ 0#1 ++ BitVec.ofBool (x.reads && x.writes) ++
          0#1 ++ BitVec.ofBool (!x.um && w) ++ BitVec.ofBool (!x.um && r) ++ 0#1 ++ BitVec.ofBool (x.um && w) ++
          BitVec.ofBool (x.um && r) ++ 0x0091#16))
        { s.sys with mea := x.addr, mei := x.mei } s.pc (s.vector s.psw.ebv 0x090) ∧
      t.req = s.req ∧ t.stale = s.stale

/-- For every state, mode, kind of access and byte address: the access is allowed exactly where the unit is absent or
disabled, or the mode is supervisor and SVP is 0, or no area of the product applies and the default bit of the kind
is 1, or an area that applies permits the kind in the mode. An area applies where it is enabled, its limits (low bits
taken as 00 and 11) are in order and hold the address, and it is global or of the current address space. (rests on
spec/20_memory.md, rules R110 to R116). -/
def Obligations.ProtectionDecision : Prop :=
  ∀ (s : State) (um : Bool) (k : AccessKind) (a : Word),
    let applies (n : BitVec 4) : Prop :=
      n ≤ s.product.lastArea ∧ (s.area n).mpat.getLsbD 7 = true ∧
      (s.area n).mpla.toNat / 4 * 4 ≤ a.toNat ∧ a.toNat ≤ (s.area n).mpua.toNat / 4 * 4 + 3 ∧
      ((s.area n).mpat.getLsbD 6 = true ∨ (s.area n).mpat.extractLsb' 16 10 = s.sys.asid.extractLsb' 0 10)
    let bit := match k with
      | .read => 0
      | .write => 1
      | .execute => 2
    s.mpuAllows um k a = true ↔
      s.product.hasMpu = false ∨ s.sys.mpm.getLsbD 0 = false ∨ (um = false ∧ s.sys.mpm.getLsbD 1 = false) ∨
      ((∀ n, ¬ applies n) ∧ s.sys.mpm.getLsbD (8 + bit) = true) ∨
      (∃ n, applies n ∧ (s.area n).mpat.getLsbD (if um then bit else bit + 3) = true)

/-- What a device does is the platform's; the model stops there by name (log 12). For every instruction that makes
one data access which passes the alignment and the protection check, where one of its bytes belongs to a device range
of the product. (rests on spec/92_eei_decisions.md, D11; notes/assumptions/12.md). -/
def Obligations.DeviceAccessStops : Prop :=
  ∀ (s : State) (i : Instr) (x : DataAccess), s.dataAccess i = some x → s.maeApplies x.addr x.size = false →
    (x.reads = true → s.mpuAllowsAll x.um .read x.addr x.size = true) →
    (x.writes = true → s.mpuAllowsAll x.um .write x.addr x.size = true) →
    s.deviceAny x.addr x.size = true → exec i s = .fault .deviceAccess

/-- For every state and every byte address at which a write is refused in the current mode: if a step answers a next
state, the byte is as before. Every instruction counts, block and read-modify-write transfers and accesses over the
end of an area among them, and every acknowledgement. The model's choices in it: a step with the reset input keeps
memory (log 13); every byte of an access is checked, and a read-modify-write checks its write first (D24, D25, log
28); a block transfer stopped midway (D31, log 31). (rests on spec/20_memory.md, rules R113, R114, R117, R119, R120,
R122; spec/47_special.md, rule R375; spec/92_eei_decisions.md, D24, D25 and D31; notes/assumptions/13.md, 28.md and
31.md). -/
def Obligations.ProtectedBytesKept : Prop :=
  ∀ (s t : State) (a : Word), s.mpuAllows s.psw.um .write a = false → step s = .next t → t.byteAt a = s.byteAt a

/-- For every state and operands: MUL and MULU, register and imm9 forms, write the low word of the exact signed or
unsigned product to reg2 and the high word to reg3, which wins where they are one register; r0 discards; nothing else
changes but the PC. (rests on spec/41_arithmetic.md, rules R242, R251 and R254). -/
def Obligations.MultiplyComplete : Prop :=
  ∀ (s : State) (reg1 reg2 reg3 : Reg) (imm9 : BitVec 9),
    let product (i : Instr) (p : Dword) : Prop := Completes i s 4 fun t =>
      RegsAre s t reg2 (p.extractLsb' 0 32) reg3 (p.extractLsb' 32 32) ∧ t.psw = s.psw ∧ SameMemory s t
    product (.mul reg1 reg2 reg3) (BitVec.ofInt 64 ((s.reg reg2).toInt * (s.reg reg1).toInt)) ∧
    product (.mulImm imm9 reg2 reg3) (BitVec.ofInt 64 ((s.reg reg2).toInt * imm9.toInt)) ∧
    product (.mulu reg1 reg2 reg3) (BitVec.ofNat 64 ((s.reg reg2).toNat * (s.reg reg1).toNat)) ∧
    product (.muluImm imm9 reg2 reg3) (BitVec.ofNat 64 ((s.reg reg2).toNat * imm9.toNat))

/-- For every state and operands: MULH (register and imm5) and MULHI write the 32-bit signed product of the lower
halfword of the one register with the other lower halfword or the sign-extended immediate; the upper halfwords do not
count; nothing else changes but the PC. (rests on spec/41_arithmetic.md, rules R242, R252 and R253). -/
def Obligations.HalfwordMultiplyComplete : Prop :=
  ∀ (s : State) (reg1 reg2 : Reg) (imm5 : BitVec 5) (imm16 : BitVec 16),
    let low (r : Reg) : Int := ((s.reg r).extractLsb' 0 16).toInt
    Computes (.mulh reg1 reg2) s 2 reg2 (BitVec.ofInt 32 (low reg2 * low reg1)) s.psw ∧
    Computes (.mulhImm imm5 reg2) s 2 reg2 (BitVec.ofInt 32 (low reg2 * imm5.toInt)) s.psw ∧
    Computes (.mulhi imm16 reg1 reg2) s 4 reg2 (BitVec.ofInt 32 (low reg1 * imm16.toInt)) s.psw

/-- For every state and operands (reg3 and reg4 even by their encoding): the pair of reg4 takes the product plus the
value of the pair of reg3 modulo 2^64; reg4 = r0 discards the low word and writes r1; nothing else changes but the
PC. (rests on spec/41_arithmetic.md, rules R242, R255 and R256). -/
def Obligations.MultiplyAccumulateComplete : Prop :=
  ∀ (s : State) (reg1 reg2 : Reg) (reg3 reg4 : BitVec 4),
    let acc : Dword := s.reg (reg3 ++ 1#1) ++ s.reg (reg3 ++ 0#1)
    let adds (i : Instr) (p : Dword) : Prop := Completes i s 4 fun t =>
      RegsAre s t (reg4 ++ 0#1) ((p + acc).extractLsb' 0 32) (reg4 ++ 1#1) ((p + acc).extractLsb' 32 32) ∧
      t.psw = s.psw ∧ SameMemory s t
    adds (.mac reg1 reg2 reg3 reg4) (BitVec.ofInt 64 ((s.reg reg2).toInt * (s.reg reg1).toInt)) ∧
    adds (.macu reg1 reg2 reg3 reg4) (BitVec.ofNat 64 ((s.reg reg2).toNat * (s.reg reg1).toNat))

/-- For every state and operands: ADD (register and imm5), ADDI and ADF (with its condition added as 0 or 1) write
the sum to the destination; CY is the carry out of bit 31, OV says that the exact signed sum does not fit, S and Z
are those of the result; SAT and every other field of PSW, and everything else but the PC, is as before. With r0 as
the destination the flags are written all the same. (rests on spec/41_arithmetic.md, rules R240, R242 to R244 and
R257). -/
def Obligations.AdditionsComplete : Prop :=
  ∀ (s : State) (reg1 reg2 reg3 : Reg) (imm5 : BitVec 5) (imm16 : BitVec 16) (cond : Cond),
    let adds (i : Instr) (len : Nat) (d : Reg) (a b : Word) (c : Bool) : Prop :=
      Computes i s len d (a + b + BitVec.ofNat 32 c.toNat) (addFlags s.psw a b c)
    adds (.addReg reg1 reg2) 2 reg2 (s.reg reg2) (s.reg reg1) false ∧
    adds (.addImm imm5 reg2) 2 reg2 (s.reg reg2) (imm5.signExtend 32) false ∧
    adds (.addi imm16 reg1 reg2) 4 reg2 (s.reg reg1) (imm16.signExtend 32) false ∧
    adds (.adf cond reg1 reg2 reg3) 4 reg3 (s.reg reg1) (s.reg reg2) (s.psw.holds cond)

/-- For every state and operands: SUB, SUBR and SBF (with its condition subtracted as 0 or 1) write a - b - bin to
the destination, CMP (register and imm5) writes no register; CY is the borrow, OV says that the exact signed
difference does not fit, S and Z are those of the result; everything else but the PC is as before. With r0 as the
destination the flags are written all the same. (states R241). -/
def Obligations.SubtractionsComplete : Prop :=
  ∀ (s : State) (reg1 reg2 reg3 : Reg) (imm5 : BitVec 5) (cond : Cond),
    let subs (i : Instr) (len : Nat) (d : Reg) (a b : Word) (c : Bool) : Prop :=
      Computes i s len d (a - b - BitVec.ofNat 32 c.toNat) (subFlags s.psw a b c)
    subs (.sub reg1 reg2) 2 reg2 (s.reg reg2) (s.reg reg1) false ∧
    subs (.subr reg1 reg2) 2 reg2 (s.reg reg1) (s.reg reg2) false ∧
    subs (.sbf cond reg1 reg2 reg3) 4 reg3 (s.reg reg2) (s.reg reg1) (s.psw.holds cond) ∧
    SetsFlags (.cmpReg reg1 reg2) s 2 (subFlags s.psw (s.reg reg2) (s.reg reg1) false) ∧
    SetsFlags (.cmpImm imm5 reg2) s 2 (subFlags s.psw (s.reg reg2) (imm5.signExtend 32) false)

/-- For every state and operands: the three forms of MOV, MOVEA (register plus sign-extended immediate) and MOVHI
(register plus the immediate in the upper halfword) write their value to the destination (r0 discards it); nothing
else changes but the PC. (rests on spec/41_arithmetic.md, rules R242 and R246 to R248). -/
def Obligations.MovesComplete : Prop :=
  ∀ (s : State) (reg1 reg2 : Reg) (imm5 : BitVec 5) (imm16 : BitVec 16) (imm32 : BitVec 32),
    Computes (.movReg reg1 reg2) s 2 reg2 (s.reg reg1) s.psw ∧
    Computes (.movImm5 imm5 reg2) s 2 reg2 (imm5.signExtend 32) s.psw ∧
    Computes (.movImm32 imm32 reg1) s 6 reg1 imm32 s.psw ∧
    Computes (.movea imm16 reg1 reg2) s 4 reg2 (s.reg reg1 + imm16.signExtend 32) s.psw ∧
    Computes (.movhi imm16 reg1 reg2) s 4 reg2 (s.reg reg1 + imm16.setWidth 32 * 0x10000) s.psw

/-- For every state and operands: SATADD (three forms), SATSUB (two), SATSUBI and SATSUBR write the exact signed
result clamped to 32 bits; CY is the carry or borrow of the unsaturated operation, OV says that the exact result did
not fit, S and Z are those of the clamped result, SAT becomes 1 with OV and keeps its value else; SAT is no input,
and with r0 as the destination the flags are written all the same. Nothing else changes but the PC. (states R280). -/
def Obligations.SaturatedComplete : Prop :=
  ∀ (s : State) (reg1 reg2 reg3 : Reg) (imm5 : BitVec 5) (imm16 : BitVec 16),
    let sats (i : Instr) (len : Nat) (d : Reg) (x : Int) (cy : Bool) : Prop :=
      Computes i s len d (clampWord x) (satFlags s.psw x cy)
    let adds (i : Instr) (len : Nat) (d : Reg) (a b : Word) : Prop :=
      sats i len d (a.toInt + b.toInt) (decide (2 ^ 32 ≤ a.toNat + b.toNat))
    let subs (i : Instr) (len : Nat) (d : Reg) (a b : Word) : Prop :=
      sats i len d (a.toInt - b.toInt) (decide (a.toNat < b.toNat))
    adds (.satadd reg1 reg2) 2 reg2 (s.reg reg2) (s.reg reg1) ∧
    adds (.sataddImm imm5 reg2) 2 reg2 (s.reg reg2) (imm5.signExtend 32) ∧
    adds (.satadd3 reg1 reg2 reg3) 4 reg3 (s.reg reg2) (s.reg reg1) ∧
    subs (.satsub reg1 reg2) 2 reg2 (s.reg reg2) (s.reg reg1) ∧
    subs (.satsub3 reg1 reg2 reg3) 4 reg3 (s.reg reg2) (s.reg reg1) ∧
    subs (.satsubi imm16 reg1 reg2) 4 reg2 (s.reg reg1) (imm16.signExtend 32) ∧
    subs (.satsubr reg1 reg2) 2 reg2 (s.reg reg1) (s.reg reg2)

/-- For every state and operands: AND, OR, XOR, NOT, ANDI, ORI, XORI (zero-extended immediates) write their result
and TST writes none; OV becomes 0, S and Z are those of the result, CY, SAT and every other field of PSW keep their
values; with r0 as the destination the flags are written all the same. Nothing else changes but the PC. (states
R285). -/
def Obligations.LogicalComplete : Prop :=
  ∀ (s : State) (reg1 reg2 : Reg) (imm16 : BitVec 16),
    let logic (i : Instr) (len : Nat) (v : Word) : Prop := Computes i s len reg2 v (logicFlags s.psw v)
    logic (.andReg reg1 reg2) 2 (s.reg reg2 &&& s.reg reg1) ∧
    logic (.orReg reg1 reg2) 2 (s.reg reg2 ||| s.reg reg1) ∧
    logic (.xorReg reg1 reg2) 2 (s.reg reg2 ^^^ s.reg reg1) ∧
    logic (.notReg reg1 reg2) 2 (~~~ s.reg reg1) ∧
    logic (.andi imm16 reg1 reg2) 4 (s.reg reg1 &&& imm16.setWidth 32) ∧
    logic (.ori imm16 reg1 reg2) 4 (s.reg reg1 ||| imm16.setWidth 32) ∧
    logic (.xori imm16 reg1 reg2) 4 (s.reg reg1 ^^^ imm16.setWidth 32) ∧
    SetsFlags (.tst reg1 reg2) s 2 (logicFlags s.psw (s.reg reg2 &&& s.reg reg1))

/-- For every state and operands of the three encodings: where lsb is at most msb, bits lsb to msb of the result are
the low bits of reg1 and every other bit is that of reg2, OV is 0, S and Z are those of the result. Where msb is
below lsb, which only two of the encodings can hold, the instruction completes with some value in reg2 and in OV, S
and Z (free values, log 26). Nothing else changes but the PC. (rests on spec/43_data_manipulation.md, rule R301;
spec/93_implementation_defined.md, U6; notes/assumptions/26.md). -/
def Obligations.BitFieldInsertComplete : Prop :=
  ∀ (s : State) (reg1 reg2 : Reg) (m l : BitVec 4),
    let inserts (i : Instr) (msb lsb : Nat) : Prop :=
      (lsb ≤ msb → ∃ v : Word, (∀ k < 32, v.getLsbD k =
          if lsb ≤ k ∧ k ≤ msb then (s.reg reg1).getLsbD (k - lsb) else (s.reg reg2).getLsbD k) ∧
        Computes i s 4 reg2 v (logicFlags s.psw v)) ∧
      (msb < lsb → ∃ (v : Word) (ov sg z : Bool), Computes i s 4 reg2 v { s.psw with ov := ov, s := sg, z := z })
    inserts (.binsHh reg1 m l reg2) (m.toNat + 16) (l.toNat + 16) ∧
    inserts (.binsHl reg1 m l reg2) (m.toNat + 16) l.toNat ∧
    inserts (.binsLl reg1 m l reg2) m.toNat l.toNat

/-- For every state and operands: byte k (halfword k) of the result is the byte (halfword) of reg2 that the rule
names; CY says that a byte of the lower halfword (BSH), any byte (BSW), the lower halfword (HSH), either halfword
(HSW) of the result is 0; OV is 0; S is its sign; Z says that the lower halfword (BSH, HSH) or the word (BSW, HSW) is
0. Nothing else changes but the PC. (rests on spec/43_data_manipulation.md, rules R302, R303, R305 and R306). -/
def Obligations.SwapsComplete : Prop :=
  ∀ (s : State) (reg2 reg3 : Reg),
    let byte (v : Word) (k : Nat) : Byte := v.extractLsb' (8 * k) 8
    let half (v : Word) (k : Nat) : Half := v.extractLsb' (16 * k) 16
    let swaps (i : Instr) (v : Word) (cy z : Prop) : Prop := ∃ c y : Bool, (c = true ↔ cy) ∧ (y = true ↔ z) ∧
      Computes i s 4 reg3 v { s.psw with cy := c, ov := false, s := v.msb, z := y }
    (∃ v : Word, byte v 0 = byte (s.reg reg2) 1 ∧ byte v 1 = byte (s.reg reg2) 0 ∧
      byte v 2 = byte (s.reg reg2) 3 ∧ byte v 3 = byte (s.reg reg2) 2 ∧
      swaps (.bsh reg2 reg3) v (byte v 0 = 0 ∨ byte v 1 = 0) (half v 0 = 0)) ∧
    (∃ v : Word, byte v 0 = byte (s.reg reg2) 3 ∧ byte v 1 = byte (s.reg reg2) 2 ∧
      byte v 2 = byte (s.reg reg2) 1 ∧ byte v 3 = byte (s.reg reg2) 0 ∧
      swaps (.bsw reg2 reg3) v (byte v 0 = 0 ∨ byte v 1 = 0 ∨ byte v 2 = 0 ∨ byte v 3 = 0) (v = 0)) ∧
    swaps (.hsh reg2 reg3) (s.reg reg2) (half (s.reg reg2) 0 = 0) (half (s.reg reg2) 0 = 0) ∧
    (∃ v : Word, half v 0 = half (s.reg reg2) 1 ∧ half v 1 = half (s.reg reg2) 0 ∧
      swaps (.hsw reg2 reg3) v (half v 0 = 0 ∨ half v 1 = 0) (v = 0))

/-- For every value of PSW: each 4-bit code holds exactly where its row says; and inverting bit 3 of a code inverts
the condition, except for 0101 and 1101. (states R172). -/
def Obligations.ConditionTable : Prop :=
  ∀ p : Psw,
    let holds (b : BitVec 4) : Bool := p.holds (Cond.ofBits b)
    (holds 0b0000 ↔ p.ov = true) ∧ (holds 0b1000 ↔ p.ov = false) ∧
    (holds 0b0001 ↔ p.cy = true) ∧ (holds 0b1001 ↔ p.cy = false) ∧
    (holds 0b0010 ↔ p.z = true) ∧ (holds 0b1010 ↔ p.z = false) ∧
    (holds 0b0011 ↔ p.cy = true ∨ p.z = true) ∧ (holds 0b1011 ↔ p.cy = false ∧ p.z = false) ∧
    (holds 0b0100 ↔ p.s = true) ∧ (holds 0b1100 ↔ p.s = false) ∧
    holds 0b0101 ∧ (holds 0b1101 ↔ p.sat = true) ∧
    (holds 0b0110 ↔ p.s ≠ p.ov) ∧ (holds 0b1110 ↔ p.s = p.ov) ∧
    (holds 0b0111 ↔ p.s ≠ p.ov ∨ p.z = true) ∧ (holds 0b1111 ↔ p.s = p.ov ∧ p.z = false) ∧
    ∀ b : BitVec 4, b ≠ 0b0101 → b ≠ 0b1101 → holds (b ^^^ 0b1000) = !holds b

/-- For every state, condition and operands: CMOV writes reg1 or the sign-extended imm5 where the condition holds,
else reg2; SETF writes 1 or 0; SASF shifts its register left by one and puts the condition into bit 0. Nothing else
changes but the PC. (rests on spec/43_data_manipulation.md, rules R304, R309 and R310). -/
def Obligations.ConditionalMovesComplete : Prop :=
  ∀ (s : State) (cond : Cond) (reg1 reg2 reg3 : Reg) (imm5 : BitVec 5),
    Computes (.cmov cond reg1 reg2 reg3) s 4 reg3 (if s.psw.holds cond then s.reg reg1 else s.reg reg2) s.psw ∧
    Computes (.cmovImm cond imm5 reg2 reg3) s 4 reg3
      (if s.psw.holds cond then imm5.signExtend 32 else s.reg reg2) s.psw ∧
    Computes (.setf cond reg2) s 4 reg2 (if s.psw.holds cond then 1 else 0) s.psw ∧
    Computes (.sasf cond reg2) s 4 reg2
      (BitVec.ofNat 32 (2 * (s.reg reg2).toNat + (if s.psw.holds cond then 1 else 0))) s.psw

/-- For every state and operands, with n the imm5 or the low five bits of reg1: bit k of the result of SHL is bit k -
n of reg2 or 0, of SHR bit k + n or 0, of SAR bit k + n or the sign, of ROTL bit (k - n) mod 32. CY is the last bit
shifted out (SHL: bit 32 - n; SHR and SAR: bit n - 1; ROTL: bit 0 of the result), 0 where n is 0; OV is 0; S and Z
are those of the result. The other fields of PSW and everything else but the PC are as before. (rests on
spec/43_data_manipulation.md, rules R300, R307, R308, R311 and R312). -/
def Obligations.ShiftsComplete : Prop :=
  ∀ (s : State) (reg1 reg2 reg3 : Reg) (imm5 : BitVec 5),
    let v := s.reg reg2
    let n := (s.reg reg1).toNat % 32
    let shifts (i : Instr) (len : Nat) (d : Reg) (bit : Nat → Bool) (cy : Bool) : Prop :=
      ∃ res : Word, (∀ k < 32, res.getLsbD k = bit k) ∧
        Computes i s len d res { s.psw with cy := cy, ov := false, s := res.msb, z := decide (res = 0) }
    let left (i : Instr) (len : Nat) (d : Reg) (n : Nat) : Prop :=
      shifts i len d (fun k => decide (n ≤ k) && v.getLsbD (k - n)) (decide (n ≠ 0) && v.getLsbD (32 - n))
    let right (i : Instr) (len : Nat) (d : Reg) (n : Nat) : Prop :=
      shifts i len d (fun k => decide (k + n < 32) && v.getLsbD (k + n)) (decide (n ≠ 0) && v.getLsbD (n - 1))
    let arith (i : Instr) (len : Nat) (d : Reg) (n : Nat) : Prop :=
      shifts i len d (fun k => if k + n < 32 then v.getLsbD (k + n) else v.getLsbD 31)
        (decide (n ≠ 0) && v.getLsbD (n - 1))
    let rotate (i : Instr) (d : Reg) (n : Nat) : Prop :=
      shifts i 4 d (fun k => v.getLsbD ((k + 32 - n) % 32)) (decide (n ≠ 0) && v.getLsbD (32 - n))
    left (.shl reg1 reg2) 4 reg2 n ∧ left (.shlImm imm5 reg2) 2 reg2 imm5.toNat ∧
    left (.shl3 reg1 reg2 reg3) 4 reg3 n ∧
    right (.shr reg1 reg2) 4 reg2 n ∧ right (.shrImm imm5 reg2) 2 reg2 imm5.toNat ∧
    right (.shr3 reg1 reg2 reg3) 4 reg3 n ∧
    arith (.sar reg1 reg2) 4 reg2 n ∧ arith (.sarImm imm5 reg2) 2 reg2 imm5.toNat ∧
    arith (.sar3 reg1 reg2 reg3) 4 reg3 n ∧
    rotate (.rotlImm imm5 reg2 reg3) reg3 imm5.toNat ∧ rotate (.rotl reg1 reg2 reg3) reg3 n

/-- For every state and register; r0 discards; nothing else changes but the PC. (rests on
spec/43_data_manipulation.md, rules R313 to R316). -/
def Obligations.ExtensionsComplete : Prop :=
  ∀ (s : State) (reg1 : Reg),
    Computes (.sxb reg1) s 2 reg1 (((s.reg reg1).extractLsb' 0 8).signExtend 32) s.psw ∧
    Computes (.sxh reg1) s 2 reg1 (((s.reg reg1).extractLsb' 0 16).signExtend 32) s.psw ∧
    Computes (.zxb reg1) s 2 reg1 (BitVec.ofNat 32 ((s.reg reg1).toNat % 2 ^ 8)) s.psw ∧
    Computes (.zxh reg1) s 2 reg1 (BitVec.ofNat 32 ((s.reg reg1).toNat % 2 ^ 16)) s.psw

/-- For every state and operands: where p is the first bit of the searched value from the left, the left searches
write 32 - p, CY saying that p is 0; where p is the first from the right, the right searches write p + 1, CY saying
that p is 31; Z, OV and S become 0. Where there is none they write 0 with Z = 1 and CY, OV, S = 0. Nothing else
changes but the PC. (rests on spec/43_data_manipulation.md, rules R317 to R320). -/
def Obligations.BitSearchesComplete : Prop :=
  ∀ (s : State) (reg2 reg3 : Reg),
    let v := s.reg reg2
    let answers (i : Instr) (n : Word) (cy z : Bool) : Prop :=
      Computes i s 4 reg3 n { s.psw with cy := cy, ov := false, s := false, z := z }
    let fromLeft (i : Instr) (b : Bool) : Prop :=
      (∀ p < 32, v.getLsbD p = b → (∀ q < 32, p < q → v.getLsbD q ≠ b) →
        answers i (BitVec.ofNat 32 (32 - p)) (decide (p = 0)) false) ∧
      ((∀ p < 32, v.getLsbD p ≠ b) → answers i 0 false true)
    let fromRight (i : Instr) (b : Bool) : Prop :=
      (∀ p < 32, v.getLsbD p = b → (∀ q < p, v.getLsbD q ≠ b) →
        answers i (BitVec.ofNat 32 (p + 1)) (decide (p = 31)) false) ∧
      ((∀ p < 32, v.getLsbD p ≠ b) → answers i 0 false true)
    fromLeft (.sch0l reg2 reg3) false ∧ fromLeft (.sch1l reg2 reg3) true ∧
    fromRight (.sch0r reg2 reg3) false ∧ fromRight (.sch1r reg2 reg3) true

/-- For every state and operands with a nonzero divisor (after its extension) and, where a remainder is written, reg2
not reg3: the quotient q and the remainder m satisfy dividend = q x divisor + m with |m| < |divisor|, m of the
dividend's sign in the signed forms (decision D27); 80000000H / -1 gives q = 80000000H, m = 0 (D28, log 24) with OV =
1, else OV = 0. S and Z are those of the quotient; CY, SAT, the other fields and everything else but the PC are as
before. (rests on spec/44_divide.md, rules R330 to R336; spec/92_eei_decisions.md, D27 and D28;
notes/assumptions/24.md). -/
def Obligations.DivisionsComplete : Prop :=
  ∀ (s : State) (reg1 reg2 reg3 : Reg),
    let a := s.reg reg2
    let half := (s.reg reg1).extractLsb' 0 16
    let flags (q : Word) (ov : Bool) : Psw := { s.psw with ov := ov, s := q.msb, z := decide (q = 0) }
    let signed (b q m : Word) (ov : Bool) : Prop :=
      (a = 0x80000000 ∧ b = 0xFFFFFFFF ∧ q = 0x80000000 ∧ m = 0 ∧ ov = true) ∨
      (¬ (a = 0x80000000 ∧ b = 0xFFFFFFFF) ∧ ov = false ∧ a.toInt = q.toInt * b.toInt + m.toInt ∧
        m.toInt.natAbs < b.toInt.natAbs ∧ (m.toInt < 0 → a.toInt < 0) ∧ (0 < m.toInt → 0 < a.toInt))
    let unsigned (b q m : Word) (ov : Bool) : Prop :=
      a.toNat = q.toNat * b.toNat + m.toNat ∧ m.toNat < b.toNat ∧ ov = false
    let divides (i : Instr) (b : Word) (rel : Word → Word → Word → Bool → Prop) : Prop :=
      b ≠ 0 → reg2 ≠ reg3 → ∃ q m ov, rel b q m ov ∧ Completes i s 4 fun t =>
        RegsAre s t reg2 q reg3 m ∧ t.psw = flags q ov ∧ SameMemory s t
    divides (.div reg1 reg2 reg3) (s.reg reg1) signed ∧
    divides (.divq reg1 reg2 reg3) (s.reg reg1) signed ∧
    divides (.divh3 reg1 reg2 reg3) (half.signExtend 32) signed ∧
    divides (.divu reg1 reg2 reg3) (s.reg reg1) unsigned ∧
    divides (.divqu reg1 reg2 reg3) (s.reg reg1) unsigned ∧
    divides (.divhu reg1 reg2 reg3) (half.setWidth 32) unsigned ∧
    (half ≠ 0 → ∃ q m ov, signed (half.signExtend 32) q m ov ∧ Computes (.divh2 reg1 reg2) s 2 reg2 q (flags q ov))

/-- For every state and operands: with the divisor 0 and reg2 not reg3 each divide completes with OV = 1 and some
words in reg2 and reg3 and some S and Z; with reg2 = reg3 it completes with one word in that register, the remainder
where the divisor is not 0, and some OV, S and Z (free values, log 25). The remainder of the signed forms has the
sign of the dividend (decision D27) and is 0 for 80000000H / -1 (D28, log 24). CY, SAT, every other register, special
register and byte of memory is as before: OV alone reports a division by 0, no exception does. (rests on
spec/44_divide.md, rule R330; spec/92_eei_decisions.md, D27 and D28; spec/93_implementation_defined.md, U7 and U8;
notes/assumptions/24.md and 25.md). -/
def Obligations.DivisionsWithOpenResults : Prop :=
  ∀ (s : State) (reg1 reg2 reg3 : Reg),
    let a := s.reg reg2
    let half := (s.reg reg1).extractLsb' 0 16
    let open3 (i : Instr) (b : Word) (rem : Word) : Prop :=
      (b = 0 → reg2 ≠ reg3 → ∃ (q m : Word) (sg z : Bool), Completes i s 4 fun t =>
        RegsAre s t reg2 q reg3 m ∧ t.psw = { s.psw with ov := true, s := sg, z := z } ∧ SameMemory s t) ∧
      (reg2 = reg3 → ∃ (m : Word) (ov sg z : Bool), (b ≠ 0 → m = rem) ∧
        Computes i s 4 reg3 m { s.psw with ov := ov, s := sg, z := z })
    let signedRem (b : Word) : Word := BitVec.ofInt 32 (a.toInt.tmod b.toInt)
    let unsignedRem (b : Word) : Word := BitVec.ofNat 32 (a.toNat % b.toNat)
    open3 (.div reg1 reg2 reg3) (s.reg reg1) (signedRem (s.reg reg1)) ∧
    open3 (.divq reg1 reg2 reg3) (s.reg reg1) (signedRem (s.reg reg1)) ∧
    open3 (.divh3 reg1 reg2 reg3) (half.signExtend 32) (signedRem (half.signExtend 32)) ∧
    open3 (.divu reg1 reg2 reg3) (s.reg reg1) (unsignedRem (s.reg reg1)) ∧
    open3 (.divqu reg1 reg2 reg3) (s.reg reg1) (unsignedRem (s.reg reg1)) ∧
    open3 (.divhu reg1 reg2 reg3) (half.setWidth 32) (unsignedRem (half.setWidth 32)) ∧
    (half = 0 → ∃ (q : Word) (sg z : Bool),
      Computes (.divh2 reg1 reg2) s 2 reg2 q { s.psw with ov := true, s := sg, z := z })

/-- For every state and operands: Bcond goes to the PC plus its sign-extended displacement where its condition holds,
else on; JR to the PC plus its displacement; JMP to its register plus its displacement; JARL likewise, with the
address of the next instruction in its link register (the target register is read first). Displacements have bit 0 =
0. Nothing else changes. (rests on spec/45_branch_loop.md, rules R340 to R344). -/
def Obligations.BranchesComplete : Prop :=
  ∀ (s : State) (cond : Cond) (reg1 reg2 : Reg) (d8 : BitVec 8) (d16 : BitVec 16) (d21 : BitVec 21)
    (d31 : BitVec 31),
    (s.psw.holds cond = true → Jumps (.bcond9 cond d8) s (s.pc + (d8 ++ 0#1).signExtend 32) ∧
      Jumps (.bcond17 cond d16) s (s.pc + (d16 ++ 0#1).signExtend 32)) ∧
    (s.psw.holds cond = false → Jumps (.bcond9 cond d8) s (s.pc + 2) ∧ Jumps (.bcond17 cond d16) s (s.pc + 4)) ∧
    Jumps (.jr22 d21) s (s.pc + (d21 ++ 0#1).signExtend 32) ∧
    Jumps (.jr32 d31) s (s.pc + (d31 ++ 0#1)) ∧
    Jumps (.jmpReg reg1) s (s.reg reg1) ∧
    Jumps (.jmp32 d31 reg1) s (s.reg reg1 + (d31 ++ 0#1)) ∧
    JumpsLinking (.jarl22 d21 reg2) s (s.pc + (d21 ++ 0#1).signExtend 32) reg2 (s.pc + 4) ∧
    JumpsLinking (.jarl32 d31 reg1) s (s.pc + (d31 ++ 0#1)) reg1 (s.pc + 6) ∧
    JumpsLinking (.jarlReg reg1 reg2) s (s.reg reg1) reg2 (s.pc + 4)

/-- For every state and operands (reg1 not r0, which the encoding prohibits): reg1 takes its value minus 1; CY is 1
for every old value except 0, OV is 1 exactly for the old value 80000000H, S and Z are those of the result, SAT is as
before; the PC goes back by the displacement where the result is not 0, else past the instruction. Nothing else
changes. (rests on spec/45_branch_loop.md, rule R345; spec/41_arithmetic.md, rule R240). -/
def Obligations.LoopCompletes : Prop :=
  ∀ (s : State) (reg1 : Reg) (d : BitVec 15), reg1 ≠ 0 →
    ∃ t, exec (.loop reg1 d) s = .next t ∧ RegIs s t reg1 (s.reg reg1 - 1) ∧
      t.pc = (if s.reg reg1 = 1 then s.pc + 4 else s.pc - 2 * d.setWidth 32).even ∧
      t.psw = { s.psw with
        cy := decide (s.reg reg1 ≠ 0)
        ov := decide (s.reg reg1 = 0x80000000)
        s := (s.reg reg1 - 1).msb
        z := decide (s.reg reg1 = 1) } ∧
      SameMemory s t ∧ SameControl s t

/-- For every state and operands, both forms, where the byte at the address may be read (and, but for TST1, written):
the byte takes the bit set, cleared or inverted, every other byte is as before, Z becomes 1 exactly where the bit was
0, and nothing else changes but the PC. The bit number is the field or the low three bits of reg2. (rests on
spec/46_bit_manipulation.md, rules R355 to R359). -/
def Obligations.BitManipulationsComplete : Prop :=
  ∀ (s : State) (i : Instr) (x : DataAccess), s.dataAccess i = some x → CanRead s x.um x.addr 1 →
    let v := s.byteAt x.addr
    let bit (r : Reg) : Nat := (s.reg r).toNat % 8
    let sets (b : Nat) : Prop := CanWrite s x.addr 1 → ChangesBit i s x.addr (v ||| (1#8 <<< b)) (!v.getLsbD b)
    let clears (b : Nat) : Prop := CanWrite s x.addr 1 → ChangesBit i s x.addr (v &&& ~~~(1#8 <<< b)) (!v.getLsbD b)
    let flips (b : Nat) : Prop := CanWrite s x.addr 1 → ChangesBit i s x.addr (v ^^^ (1#8 <<< b)) (!v.getLsbD b)
    let tests (b : Nat) : Prop := SetsFlags i s 4 { s.psw with z := !v.getLsbD b }
    match i with
    | .set1 b _ _ => sets b.toNat
    | .set1Reg _ r => sets (bit r)
    | .clr1 b _ _ => clears b.toNat
    | .clr1Reg _ r => clears (bit r)
    | .not1 b _ _ => flips b.toNat
    | .not1Reg _ r => flips (bit r)
    | .tst1 b _ _ => tests b.toNat
    | .tst1Reg _ r => tests (bit r)
    | _ => True

/-- For every state and operands where the word at reg1 may be read and written: the word is written back as reg3
(its value before) where it equals reg2, else as it was; reg3 takes the word as it was; CY, OV, S and Z are those of
reg2 minus the word; every other byte, register and field is as before. (rests on spec/47_special.md, rule R366;
spec/20_memory.md, rules R122 and R131). -/
def Obligations.CompareAndExchangeCompletes : Prop :=
  ∀ (s : State) (reg1 reg2 reg3 : Reg), CanRead s s.psw.um (s.reg reg1) 4 → CanWrite s (s.reg reg1) 4 →
    let w := s.wordAt (s.reg reg1)
    Completes (.caxi reg1 reg2 reg3) s 4 fun t =>
      RegIs s t reg3 w ∧ t.psw = subFlags s.psw (s.reg reg2) w false ∧
      t.wordAt (s.reg reg1) = (if s.reg reg2 = w then s.reg reg3 else w) ∧ SameMemoryBut s t (s.reg reg1) 4

/-- For every state and operands where the table entry may be read: CALLT goes to CTBP plus the entry, CTPC takes the
next address and CTPSW the five flags; SWITCH goes to the address after it plus twice the sign-extended entry; both
change nothing else. CTRET always completes: the PC takes CTPC and the five flags take CTPSW, bits 4 to 0. (rests on
spec/47_special.md, rules R365, R368 and R387; spec/20_memory.md, rule R118; spec/92_eei_decisions.md, D30). -/
def Obligations.TableCallsAndJumpsComplete : Prop :=
  ∀ (s : State) (imm6 : BitVec 6) (reg1 : Reg),
    (let a := s.sys.ctbp + 2 * imm6.setWidth 32
     CanRead s s.psw.um a 2 → ∃ t, exec (.callt imm6) s = .next t ∧
      t.pc = (s.sys.ctbp + (s.halfAt a).setWidth 32).even ∧
      t.sys = { s.sys with ctpc := s.pc + 2, ctpsw := s.psw.toWord &&& 0x1F } ∧
      SameRegs s t ∧ t.psw = s.psw ∧ SameMemory s t ∧ t.areas = s.areas ∧ t.run = s.run ∧ t.req = s.req ∧
      t.product = s.product ∧ t.eoi = s.eoi) ∧
    (let a := s.pc + 2 + 2 * s.reg reg1
     CanRead s s.psw.um a 2 → Jumps (.switch reg1) s (s.pc + 2 + 2 * (s.halfAt a).signExtend 32)) ∧
    ∃ t, exec .ctret s = .next t ∧ t.pc = s.sys.ctpc.even ∧
      t.psw = { s.psw with
        sat := s.sys.ctpsw.getLsbD 4
        cy := s.sys.ctpsw.getLsbD 3
        ov := s.sys.ctpsw.getLsbD 2
        s := s.sys.ctpsw.getLsbD 1
        z := s.sys.ctpsw.getLsbD 0 } ∧
      SameRegs s t ∧ SameMemory s t ∧ SameControl s t

/-- For every state and vector where the entry may be read in supervisor mode: EIPC takes the next address, EIPSW the
old PSW, EIIC 8000H + the vector itself; PSW as for SYSCALL in the exception table; the PC SCBP plus the word at SCBP
+ 4 x the index, bit 0 dropped; the index is the vector, or 0 where it exceeds SCCFG.SIZE. Nothing else changes.
(rests on spec/47_special.md, rule R397; spec/60_exceptions.md, rules R420 and R441; spec/92_eei_decisions.md, D30).
-/
def Obligations.SystemCallCompletes : Prop :=
  ∀ (s : State) (v : BitVec 8),
    let index : Word := if v.toNat ≤ s.sys.sccfg.toNat % 256 then v.setWidth 32 else 0
    CanRead s false (s.sys.scbp + 4 * index) 4 →
    ∃ t, exec (.syscall v) s = .next t ∧
      Acknowledged s t (eiEntry (0x8000 + v.setWidth 32)) s.sys (s.pc + 4)
        (s.sys.scbp + s.wordAt (s.sys.scbp + 4 * index)).even ∧
      t.req = s.req

/-- For every state and vector: TRAP saves the next address, the old PSW and 40H + vector5 in EIPC, EIPSW, EIIC and
goes to offset 40H (vectors 0 to 15) or 50H (16 to 31) of the base in use; FETRAP saves the next address, the old PSW
and 30H + vector4 in FEPC, FEPSW, FEIC and goes to offset 30H. PSW as for them in the exception table; nothing else
changes. (rests on spec/47_special.md, rules R379 and R388; spec/60_exceptions.md, rules R420 and R440). -/
def Obligations.TrapsComplete : Prop :=
  ∀ (s : State) (v5 : BitVec 5) (v4 : BitVec 4),
    (∃ t, exec (.trap v5) s = .next t ∧
      Acknowledged s t (eiEntry (0x40 + v5.setWidth 32)) s.sys (s.pc + 4)
        (s.vector s.psw.ebv (if v5.toNat < 16 then 0x040 else 0x050)) ∧ t.req = s.req) ∧
    (∃ t, exec (.fetrap v4) s = .next t ∧
      Acknowledged s t (feEntry (0x30 + v4.setWidth 32)) s.sys (s.pc + 2) (s.vector s.psw.ebv 0x030) ∧ t.req = s.req)

/-- For every state and immediates: FEPC takes the address of the instruction itself, FEPSW the old PSW, FEIC 60H;
PSW as for RIE in the exception table; the PC the handler at offset 060H; nothing else changes. (rests on
spec/47_special.md, rules R367 and R383; spec/60_exceptions.md, rule R420). -/
def Obligations.ReservedInstructionsRaise : Prop :=
  ∀ (s : State) (imm5 : BitVec 5) (imm4 : BitVec 4),
    Raises .rie s 0x60 0x060 ∧ Raises (.rieImm imm5 imm4) s 0x60 0x060 ∧ Raises .cll s 0x60 0x060

/-- For every state in user mode: those instructions raise PIE (code A0H, offset 0A0H, FEPC their own address) and
have no other effect. LDSR and STSR do so for every register number and group but PSW, CTPC, CTPSW and CTBP,
undefined and prohibited numbers among them. (rests on spec/60_exceptions.md, rules R410 and R470; spec/10_state.md,
rules R33, R34 and R37; spec/47_special.md, rules R369, R376, R385 and R386). -/
def Obligations.PrivilegedRaiseInUserMode : Prop :=
  ∀ s : State, s.psw.um = true →
    Raises .eiret s 0xA0 0x0A0 ∧ Raises .feret s 0xA0 0x0A0 ∧ Raises .halt s 0xA0 0x0A0 ∧
    (s.sys.mctl.getLsbD 0 = false → Raises .ei s 0xA0 0x0A0 ∧ Raises .di s 0xA0 0x0A0) ∧
    ∀ reg2 regID selID, (regID, selID) ∉ [((5, 0) : BitVec 5 × BitVec 5), (16, 0), (17, 0), (20, 0)] →
      Raises (.ldsr reg2 regID selID) s 0xA0 0x0A0 ∧ Raises (.stsr regID reg2 selID) s 0xA0 0x0A0

/-- For every state in supervisor mode: EIRET takes the PC from EIPC (bit 0 dropped) and every field of PSW but Debug
(decision D20, log 16) from EIPSW, FERET from FEPC and FEPSW. Where EP was 0 the end of the handler is reported once
(the model counts the reports: log 36); on EIRET with EP = 0 and INTCFG.ISPC = 0 the lowest-numbered set bit of ISPR
is cleared (none set: no change); on FERET, with EP = 1, or with ISPC = 1 ISPR is as before. Nothing else changes.
(rests on spec/47_special.md, rules R377 and R378; spec/60_exceptions.md, rules R450 and R452;
spec/92_eei_decisions.md, D20; notes/assumptions/16.md and 36.md). -/
def Obligations.ReturnsComplete : Prop :=
  ∀ s : State, s.psw.um = false →
    (∃ t, exec .eiret s = .next t ∧ Returned s t s.sys.eipc s.sys.eipsw true) ∧
    (∃ t, exec .feret s = .next t ∧ Returned s t s.sys.fepc s.sys.fepsw false)

/-- For every state in supervisor mode or with MCTL.UIC = 1, EI clears PSW.ID and DI sets it. For every state SNOOZE
leaves the core snoozing for the product's period (in steps: log 18); for every state in supervisor mode HALT leaves
it halted. The PC points after the instruction and everything else is as before. (rests on spec/47_special.md, rules
R369, R376, R380 and R384; spec/60_exceptions.md, rule R460; notes/assumptions/18.md). -/
def Obligations.InterruptEnableAndRunControlComplete : Prop :=
  ∀ s : State,
    let stops (i : Instr) (r : RunState) : Prop := ∃ t, exec i s = .next t ∧ t.run = r ∧ t.pc = (s.pc + 4).even ∧
      SameRegs s t ∧ t.psw = s.psw ∧ SameMemory s t ∧ t.sys = s.sys ∧ t.areas = s.areas ∧ t.req = s.req ∧
      t.product = s.product ∧ t.eoi = s.eoi
    (s.psw.um = false ∨ s.sys.mctl.getLsbD 0 = true →
      SetsFlags .ei s 4 { s.psw with id := false } ∧ SetsFlags .di s 4 { s.psw with id := true }) ∧
    (s.psw.um = false → stops .halt .halted) ∧ stops .snooze (.snoozing s.product.snoozePeriod)

/-- For every state and operands: these complete with every register, flag, special register and byte of memory as
before. After SYNCI no byte that was stored and read back is open to the fetch any more; the others leave the list of
such bytes alone. (rests on spec/47_special.md, rules R382, R393 to R396, R398 and R399; spec/20_memory.md, rules
R140 to R143). -/
def Obligations.NoOperationsComplete : Prop :=
  ∀ (s : State) (cacheop : BitVec 7) (prefop : BitVec 5) (reg1 : Reg),
    let idle (i : Instr) (len : Nat) (es : List StaleByte) : Prop := Completes i s len fun t =>
      SameRegs s t ∧ t.psw = s.psw ∧ SameMemory s t ∧ t.stale = es
    idle .nop 2 s.stale ∧ idle .synce 2 s.stale ∧ idle .syncm 2 s.stale ∧ idle .syncp 2 s.stale ∧
    idle .synci 2 (s.stale.filter (fun e => e.loaded = false)) ∧
    idle (.cache cacheop reg1) 4 s.stale ∧ idle (.pref prefop reg1) 4 s.stale

/-- For every pair of first halfwords: the list the decoder takes from them names r24, r25, r26, r27, r20, r21, r22,
r23, r28, r29, r31 exactly by bits 31 to 21 and r30 by bit 0 of the instruction, names no other register, and lists
them in strictly ascending order. (states R371). -/
def Obligations.ListTable : Prop :=
  ∀ (h1 h2 : Half),
    (listRegs (fieldList h1 h2)).Pairwise (· < ·) ∧
    ∀ r : Reg, r ∈ listRegs (fieldList h1 h2) ↔
      (r = 24 ∧ h2.getLsbD 15) ∨ (r = 25 ∧ h2.getLsbD 14) ∨ (r = 26 ∧ h2.getLsbD 13) ∨ (r = 27 ∧ h2.getLsbD 12) ∨
      (r = 20 ∧ h2.getLsbD 11) ∨ (r = 21 ∧ h2.getLsbD 10) ∨ (r = 22 ∧ h2.getLsbD 9) ∨ (r = 23 ∧ h2.getLsbD 8) ∨
      (r = 28 ∧ h2.getLsbD 7) ∨ (r = 29 ∧ h2.getLsbD 6) ∨ (r = 31 ∧ h2.getLsbD 5) ∨ (r = 30 ∧ h1.getLsbD 0)

/-- For every state and operands where every word of the block may be written: the k-th register lies in the word 4 x
k below the old sp, rounded down to a multiple of 4, the values being those before the instruction; no other byte
differs. PREPARE then lowers sp by the block and the frame bytes, and its second forms set ep to the new sp, the
sign-extended, the shifted or the 32-bit immediate; PUSHSP lowers sp by the block. rh above rt stores nothing.
Nothing else changes but the PC. (rests on spec/47_special.md, rules R371 and R373 to R375). -/
def Obligations.PushesComplete : Prop :=
  ∀ (s : State) (imm5 : BitVec 5) (list12 : BitVec 12) (imm16 : BitVec 16) (imm32 : BitVec 32) (rh rt : Reg),
    let rs := listRegs list12
    let sp1 := s.reg 3 - 4 * BitVec.ofNat 32 rs.length - 4 * imm5.setWidth 32
    let qs := (List.range (rt.toNat + 1 - rh.toNat)).map fun k => rh + BitVec.ofNat 5 k
    let stored (t : State) (rs : List Reg) : Prop := t.psw = s.psw ∧ Pushed s t (s.reg 3) rs
    (CanPush s (s.reg 3) rs.length →
      (Completes (.prepare imm5 list12) s 4 fun t => stored t rs ∧ RegIs s t 3 sp1) ∧
      (Completes (.prepareSp imm5 list12) s 4 fun t => stored t rs ∧ RegsAre s t 3 sp1 30 sp1) ∧
      (Completes (.prepareImmLo imm5 list12 imm16) s 6 fun t =>
        stored t rs ∧ RegsAre s t 3 sp1 30 (imm16.signExtend 32)) ∧
      (Completes (.prepareImmHi imm5 list12 imm16) s 6 fun t =>
        stored t rs ∧ RegsAre s t 3 sp1 30 (imm16.setWidth 32 * 0x10000)) ∧
      (Completes (.prepareImm32 imm5 list12 imm32) s 8 fun t => stored t rs ∧ RegsAre s t 3 sp1 30 imm32)) ∧
    (CanPush s (s.reg 3) qs.length →
      Completes (.pushsp rh rt) s 4 fun t => stored t qs ∧ RegIs s t 3 (s.reg 3 - 4 * BitVec.ofNat 32 qs.length))

/-- For every state and operands where every word of the block may be read: DISPOSE loads its registers in descending
order from sp plus the frame bytes up, POPSP from sp up, each word at a multiple of 4; r0 and (in POPSP) sp drop
their word; then sp takes the address after the block. The jump form of DISPOSE goes to its register as loaded, sp as
it was before. rh above rt loads nothing. No flag, special register or byte of memory changes. (rests on
spec/47_special.md, rules R370 to R372 and R375). -/
def Obligations.PopsComplete : Prop :=
  ∀ (s : State) (imm5 : BitVec 5) (list12 : BitVec 12) (reg1 rh rt : Reg),
    let rs := (listRegs list12).reverse
    let bottom := s.reg 3 + 4 * imm5.setWidth 32
    let qs := (List.range (rt.toNat + 1 - rh.toNat)).map fun k => rt - BitVec.ofNat 5 k
    let loaded (t : State) (bottom : Word) (rs : List Reg) : Prop :=
      (∀ r, t.reg r = if r = 3 then bottom + 4 * BitVec.ofNat 32 rs.length else popped s bottom rs r) ∧
      t.psw = s.psw ∧ SameMemory s t
    (CanPop s bottom rs.length →
      (Completes (.dispose imm5 list12) s 4 fun t => loaded t bottom rs) ∧
      ∃ t, exec (.disposeJmp imm5 list12 reg1) s = .next t ∧ t.pc = (popped s bottom rs reg1).even ∧
        SameControl s t ∧ loaded t bottom rs) ∧
    (CanPop s (s.reg 3) qs.length → Completes (.popsp rh rt) s 4 fun t => loaded t (s.reg 3) qs)

/-- For every state and operands of PREPARE (all five forms), PUSHSP, DISPOSE (both forms) and POPSP where the first
n words of the block may be transferred and the next one is refused: MDP is acknowledged at the instruction itself
with MEA the word's address, MEI the row of the instruction and BL set in FEIC; the first n words are stored (or
loaded), no other byte or register differs, sp and ep (but where ep is one of the loaded) among them, and the jump
form of DISPOSE does not go to its target (decision D31, log 31). MEI.REG = 0, where Table 3-21 prints none, is
decision D22 (log 33). (rests on spec/47_special.md, rule R375; spec/20_memory.md, rules R123 and R124;
spec/10_state.md, rule R61; spec/92_eei_decisions.md, D22 and D31; notes/assumptions/31.md and 33.md). -/
def Obligations.BlockTransfersStopMidway : Prop :=
  ∀ (s : State) (imm5 : BitVec 5) (list12 : BitVec 12) (imm16 : BitVec 16) (imm32 : BitVec 32) (reg1 rh rt : Reg)
    (n : Nat),
    let pushes (i : Instr) (rs : List Reg) (itype : BitVec 5) : Prop := n < rs.length →
      let a := stackAddr (s.reg 3 - 4 * BitVec.ofNat 32 (n + 1))
      CanPush s (s.reg 3) n → s.mpuAllowsAll s.psw.um .write a 4 = false →
      ∃ t, exec i s = .next t ∧ BlockRefused s t a itype true ∧ SameRegs s t ∧ Pushed s t (s.reg 3) (rs.take n)
    let pops (i : Instr) (bottom : Word) (rs : List Reg) (itype : BitVec 5) : Prop := n < rs.length →
      let a := stackAddr (bottom + 4 * BitVec.ofNat 32 n)
      CanPop s bottom n → s.mpuAllowsAll s.psw.um .read a 4 = false →
      ∃ t, exec i s = .next t ∧ BlockRefused s t a itype false ∧ SameMemory s t ∧
        ∀ r, t.reg r = popped s bottom (rs.take n) r
    pushes (.prepare imm5 list12) (listRegs list12) 12 ∧
    pushes (.prepareSp imm5 list12) (listRegs list12) 12 ∧
    pushes (.prepareImmLo imm5 list12 imm16) (listRegs list12) 12 ∧
    pushes (.prepareImmHi imm5 list12 imm16) (listRegs list12) 12 ∧
    pushes (.prepareImm32 imm5 list12 imm32) (listRegs list12) 12 ∧
    pushes (.pushsp rh rt) ((List.range (rt.toNat + 1 - rh.toNat)).map fun k => rh + BitVec.ofNat 5 k) 13 ∧
    pops (.dispose imm5 list12) (s.reg 3 + 4 * imm5.setWidth 32) (listRegs list12).reverse 12 ∧
    pops (.disposeJmp imm5 list12 reg1) (s.reg 3 + 4 * imm5.setWidth 32) (listRegs list12).reverse 12 ∧
    pops (.popsp rh rt) (s.reg 3) ((List.range (rt.toNat + 1 - rh.toNat)).map fun k => rt - BitVec.ofNat 5 k) 13

/-- For every state in supervisor mode (and in both modes for PSW, CTPC, CTPSW and CTBP): STSR of each number and
group of the table writes that register's value to reg2 (r0 discards it) and changes nothing else but the PC; the MPU
registers where the product has the unit and the area. STSR of a number without an accessible register completes with
some word in reg2 (a free value, log 27). That the MPRC bits of absent areas read 0, that MPTRGN is the last area,
and that the registers of an absent unit or area count as inaccessible is decision D4 (log 42); the requests ICSR
tells of are those of the channels the product has (log 47). (rests on spec/47_special.md, rule R386;
spec/10_state.md, rules R31, R34 and R40 to R82; spec/92_eei_decisions.md, D4; spec/93_implementation_defined.md, U2;
notes/assumptions/27.md, 42.md and 47.md). -/
def Obligations.SystemRegisterReads : Prop :=
  ∀ s : State,
    (Reads s 5 0 s.psw.toWord ∧ Reads s 16 0 s.sys.ctpc ∧ Reads s 17 0 s.sys.ctpsw ∧ Reads s 20 0 s.sys.ctbp) ∧
    (s.psw.um = false →
      (Reads s 0 0 s.sys.eipc ∧ Reads s 1 0 s.sys.eipsw ∧ Reads s 2 0 s.sys.fepc ∧ Reads s 3 0 s.sys.fepsw ∧
        Reads s 13 0 s.sys.eiic ∧ Reads s 14 0 s.sys.feic ∧ Reads s 28 0 s.sys.eiwr ∧ Reads s 29 0 s.sys.fewr ∧
        Reads s 31 0 0) ∧
      (Reads s 0 1 s.sys.mcfg0 ∧ Reads s 2 1 (s.product.rbase ++ 0#8 ++ BitVec.ofBool s.product.rint) ∧
        Reads s 3 1 s.sys.ebase ∧ Reads s 4 1 s.sys.intbp ∧ Reads s 5 1 s.sys.mctl ∧
        Reads s 6 1 (s.product.archId ++ 0#15 ++ BitVec.ofBool s.product.hasMpu ++ s.product.versionId) ∧
        Reads s 11 1 s.sys.sccfg ∧ Reads s 12 1 s.sys.scbp) ∧
      (Reads s 0 2 (s.product.peid.setWidth 32 <<< 16 ||| 0x8000) ∧ Reads s 6 2 s.sys.mea ∧ Reads s 7 2 s.sys.asid ∧
        Reads s 8 2 s.sys.mei ∧ Reads s 10 2 s.sys.ispr ∧ Reads s 11 2 s.sys.pmr ∧ Reads s 13 2 s.sys.intcfg) ∧
      (∃ c : Bool, (c = true ↔ ∃ r, EiintStands s r ∧ s.sys.pmr.getLsbD r.priority.toNat = true) ∧
        Reads s 12 2 ((BitVec.ofBool c).setWidth 32)) ∧
      (s.product.hasMpu = true →
        Reads s 0 5 s.sys.mpm ∧ Reads s 4 5 0 ∧ Reads s 5 5 (s.product.lastArea.setWidth 32) ∧
        Reads s 11 5 0x0000003F ∧
        (∃ e : Word, (∀ k, e.getLsbD k = true ↔ ∃ n : BitVec 4, n.toNat = k ∧ n ≤ s.product.lastArea ∧
            (s.area n).mpat.getLsbD 7 = true) ∧ Reads s 1 5 e) ∧
        ∀ (g : BitVec 1) (k : BitVec 3), g ++ k ≤ s.product.lastArea →
          Reads s (k ++ 0#2) (6 + g.setWidth 5) (s.area (g ++ k)).mpla ∧
          Reads s (k ++ 1#2) (6 + g.setWidth 5) (s.area (g ++ k)).mpua ∧
          Reads s (k ++ 2#2) (6 + g.setWidth 5) (s.area (g ++ k)).mpat) ∧
      ∀ regID reg2 selID, s.sysRegAt regID selID = none →
        ∃ v, Computes (.stsr regID reg2 selID) s 4 reg2 v s.psw)

/-- For every state and every accessible register that the mode may write, MPRC apart: the R/W bits take those of
reg2, the others keep their values (a register without R/W bits is as before), and every other system register reads
as before (but MPRC, a copy of bits of the areas, and ICSR, a function of PMR). LDSR in supervisor mode to an
undefined number that is not prohibited does nothing. No general register and no byte of memory changes. Decisions
and choices in it: LDSR leaves PSW.Debug (D20, log 16); PMR stores any mask (U9, log 49); the width of MCFG0.SPID
(D5, log 5); the registers of an absent unit or area ignore writes (D4, log 42); which bits of MCTL, MPM and MPAT a
product lets be written is its parameter (D7, log 48). (rests on spec/47_special.md, rule R385; spec/10_state.md,
rules R34, R36, R37, R40 to R82 and R45; spec/92_eei_decisions.md, D4, D5, D7 and D20;
spec/93_implementation_defined.md, U9; notes/assumptions/5.md, 16.md, 42.md, 48.md and 49.md). -/
def Obligations.SystemRegisterWrites : Prop :=
  ∀ (s : State) (reg2 : Reg) (regID selID : BitVec 5),
    (∀ r, s.sysRegAt regID selID = some r → r ≠ .mprc →
      s.psw.um = false ∨ r = .psw ∨ r = .ctpc ∨ r = .ctpsw ∨ r = .ctbp →
      ∃ t, exec (.ldsr reg2 regID selID) s = .next t ∧ t.pc = (s.pc + 4).even ∧
        t.readSys r = (s.readSys r &&& ~~~ s.writable r) ||| (s.reg reg2 &&& s.writable r) ∧
        (∀ q, q ≠ r → q ≠ .mprc → q ≠ .icsr → t.readSys q = s.readSys q) ∧
        SameRegs s t ∧ SameMemory s t ∧ t.run = s.run ∧ t.req = s.req ∧ t.product = s.product ∧ t.eoi = s.eoi) ∧
    (s.psw.um = false → s.sysRegAt regID selID = none →
      (regID, selID) ∉ [((10, 1) : BitVec 5 × BitVec 5), (13, 1), (14, 1), (15, 1), (16, 1), (5, 2), (20, 5)] →
      SetsFlags (.ldsr reg2 regID selID) s 4 s.psw)

/-- For every state in supervisor mode on a product with the unit: bit n of reg2 becomes MPATn.E for every area n the
product has; every other bit of every area, and every area beyond (decision D4, log 42), is as before; so is
everything else but the PC. (rests on spec/10_state.md, rule R75; spec/92_eei_decisions.md, D4;
notes/assumptions/42.md). -/
def Obligations.AreaEnablesWrite : Prop :=
  ∀ (s : State) (reg2 : Reg), s.psw.um = false → s.product.hasMpu = true →
    ∃ t, exec (.ldsr reg2 1 5) s = .next t ∧ t.pc = (s.pc + 4).even ∧
      (∀ n : BitVec 4, (t.area n).mpla = (s.area n).mpla ∧ (t.area n).mpua = (s.area n).mpua ∧
        ∀ k < 32, (t.area n).mpat.getLsbD k =
          if k = 7 ∧ n ≤ s.product.lastArea then (s.reg reg2).getLsbD n.toNat else (s.area n).mpat.getLsbD k) ∧
      SameRegs s t ∧ t.psw = s.psw ∧ SameMemory s t ∧ t.sys = s.sys ∧ t.run = s.run ∧ t.req = s.req ∧
      t.product = s.product ∧ t.eoi = s.eoi

/-- For every state in user mode and every instruction that gives a next state: the protection areas, PSW.EBV and
PSW.Debug are as before. Either the core is still in user mode, only CTPC, CTPSW and CTBP of the system registers may
differ, NP and EP are as before, and ID may differ only with MCTL.UIC = 1; or an exception was taken: supervisor mode
with ID = 1, and only the registers exceptions save into (EIPC, EIPSW, EIIC, FEPC, FEPSW, FEIC, MEA, MEI) may differ.
(rests on spec/60_exceptions.md, rules R402, R420 and R470; spec/10_state.md, rules R33, R34 and R45;
spec/47_special.md, rules R369, R376, R377 and R378). -/
def Obligations.UserModeIsConfined : Prop :=
  ∀ (i : Instr) (s t : State), s.psw.um = true → exec i s = .next t →
    t.areas = s.areas ∧ t.psw.ebv = s.psw.ebv ∧ t.psw.debug = s.psw.debug ∧
    ((t.psw.um = true ∧ t.psw.np = s.psw.np ∧ t.psw.ep = s.psw.ep ∧
        (t.psw.id = s.psw.id ∨ s.sys.mctl.getLsbD 0 = true) ∧
        t.sys = { s.sys with ctpc := t.sys.ctpc, ctpsw := t.sys.ctpsw, ctbp := t.sys.ctbp }) ∨
      (t.psw.um = false ∧ t.psw.id = true ∧ t.psw.ep = true ∧ t.run = .running ∧
        t.sys = { s.sys with
          eipc := t.sys.eipc
          eipsw := t.sys.eipsw
          eiic := t.sys.eiic
          fepc := t.sys.fepc
          fepsw := t.sys.fepsw
          feic := t.sys.feic
          mea := t.sys.mea
          mei := t.sys.mei }))
end

