-- ==== Sys2Proof/Laws/State.lean ====
section
/-!
SUPPORT. What each update of the state leaves: one lemma per update and field, so that no proof unfolds an update.
-/
namespace Sys2Proof.Machine

open Sys2Proof

/-! ### setReg -/

@[simp] theorem State.setReg_product (s : State) (r : Reg) (v : Word) : (s.setReg r v).product = s.product := by
  unfold State.setReg; split <;> rfl

@[simp] theorem State.setReg_pc (s : State) (r : Reg) (v : Word) : (s.setReg r v).pc = s.pc := by
  unfold State.setReg; split <;> rfl

@[simp] theorem State.setReg_psw (s : State) (r : Reg) (v : Word) : (s.setReg r v).psw = s.psw := by
  unfold State.setReg; split <;> rfl

@[simp] theorem State.setReg_sys (s : State) (r : Reg) (v : Word) : (s.setReg r v).sys = s.sys := by
  unfold State.setReg; split <;> rfl

@[simp] theorem State.setReg_areas (s : State) (r : Reg) (v : Word) : (s.setReg r v).areas = s.areas := by
  unfold State.setReg; split <;> rfl

@[simp] theorem State.setReg_run (s : State) (r : Reg) (v : Word) : (s.setReg r v).run = s.run := by
  unfold State.setReg; split <;> rfl

@[simp] theorem State.setReg_req (s : State) (r : Reg) (v : Word) : (s.setReg r v).req = s.req := by
  unfold State.setReg; split <;> rfl

@[simp] theorem State.setReg_mem (s : State) (r : Reg) (v : Word) : (s.setReg r v).mem = s.mem := by
  unfold State.setReg; split <;> rfl

@[simp] theorem State.setReg_stale (s : State) (r : Reg) (v : Word) : (s.setReg r v).stale = s.stale := by
  unfold State.setReg; split <;> rfl

@[simp] theorem State.setReg_freeCtr (s : State) (r : Reg) (v : Word) : (s.setReg r v).freeCtr = s.freeCtr := by
  unfold State.setReg; split <;> rfl

@[simp] theorem State.setReg_eoi (s : State) (r : Reg) (v : Word) : (s.setReg r v).eoi = s.eoi := by
  unfold State.setReg; split <;> rfl

/-! ### setPc -/

@[simp] theorem State.setPc_product (s : State) (v : Word) : (s.setPc v).product = s.product := rfl

@[simp] theorem State.setPc_gpr (s : State) (v : Word) : (s.setPc v).gpr = s.gpr := rfl

@[simp] theorem State.setPc_pc (s : State) (v : Word) :
    (s.setPc v).pc = v.even := rfl

@[simp] theorem State.setPc_psw (s : State) (v : Word) : (s.setPc v).psw = s.psw := rfl

@[simp] theorem State.setPc_sys (s : State) (v : Word) : (s.setPc v).sys = s.sys := rfl

@[simp] theorem State.setPc_areas (s : State) (v : Word) : (s.setPc v).areas = s.areas := rfl

@[simp] theorem State.setPc_run (s : State) (v : Word) : (s.setPc v).run = s.run := rfl

@[simp] theorem State.setPc_req (s : State) (v : Word) : (s.setPc v).req = s.req := rfl

@[simp] theorem State.setPc_mem (s : State) (v : Word) : (s.setPc v).mem = s.mem := rfl

@[simp] theorem State.setPc_stale (s : State) (v : Word) : (s.setPc v).stale = s.stale := rfl

@[simp] theorem State.setPc_freeCtr (s : State) (v : Word) : (s.setPc v).freeCtr = s.freeCtr := rfl

@[simp] theorem State.setPc_eoi (s : State) (v : Word) : (s.setPc v).eoi = s.eoi := rfl

/-! ### advance -/

@[simp] theorem State.advance_product (s : State) (n : Nat) : (s.advance n).product = s.product := rfl

@[simp] theorem State.advance_gpr (s : State) (n : Nat) : (s.advance n).gpr = s.gpr := rfl

@[simp] theorem State.advance_pc (s : State) (n : Nat) :
    (s.advance n).pc = (s.pc + BitVec.ofNat 32 n).even := rfl

@[simp] theorem State.advance_psw (s : State) (n : Nat) : (s.advance n).psw = s.psw := rfl

@[simp] theorem State.advance_sys (s : State) (n : Nat) : (s.advance n).sys = s.sys := rfl

@[simp] theorem State.advance_areas (s : State) (n : Nat) : (s.advance n).areas = s.areas := rfl

@[simp] theorem State.advance_run (s : State) (n : Nat) : (s.advance n).run = s.run := rfl

@[simp] theorem State.advance_req (s : State) (n : Nat) : (s.advance n).req = s.req := rfl

@[simp] theorem State.advance_mem (s : State) (n : Nat) : (s.advance n).mem = s.mem := rfl

@[simp] theorem State.advance_stale (s : State) (n : Nat) : (s.advance n).stale = s.stale := rfl

@[simp] theorem State.advance_freeCtr (s : State) (n : Nat) : (s.advance n).freeCtr = s.freeCtr := rfl

@[simp] theorem State.advance_eoi (s : State) (n : Nat) : (s.advance n).eoi = s.eoi := rfl

/-! ### useFree -/

@[simp] theorem State.useFree_product (s : State) (n : Nat) : (s.useFree n).product = s.product := rfl

@[simp] theorem State.useFree_gpr (s : State) (n : Nat) : (s.useFree n).gpr = s.gpr := rfl

@[simp] theorem State.useFree_pc (s : State) (n : Nat) : (s.useFree n).pc = s.pc := rfl

@[simp] theorem State.useFree_psw (s : State) (n : Nat) : (s.useFree n).psw = s.psw := rfl

@[simp] theorem State.useFree_sys (s : State) (n : Nat) : (s.useFree n).sys = s.sys := rfl

@[simp] theorem State.useFree_areas (s : State) (n : Nat) : (s.useFree n).areas = s.areas := rfl

@[simp] theorem State.useFree_run (s : State) (n : Nat) : (s.useFree n).run = s.run := rfl

@[simp] theorem State.useFree_req (s : State) (n : Nat) : (s.useFree n).req = s.req := rfl

@[simp] theorem State.useFree_mem (s : State) (n : Nat) : (s.useFree n).mem = s.mem := rfl

@[simp] theorem State.useFree_stale (s : State) (n : Nat) : (s.useFree n).stale = s.stale := rfl

@[simp] theorem State.useFree_freeCtr (s : State) (n : Nat) :
    (s.useFree n).freeCtr = s.freeCtr + n := rfl

@[simp] theorem State.useFree_eoi (s : State) (n : Nat) : (s.useFree n).eoi = s.eoi := rfl

/-! ### setFlags -/

@[simp] theorem State.setFlags_product (s : State) (cy ov sg z : Bool) :
    (s.setFlags cy ov sg z).product = s.product := rfl

@[simp] theorem State.setFlags_gpr (s : State) (cy ov sg z : Bool) : (s.setFlags cy ov sg z).gpr = s.gpr := rfl

@[simp] theorem State.setFlags_pc (s : State) (cy ov sg z : Bool) : (s.setFlags cy ov sg z).pc = s.pc := rfl

@[simp] theorem State.setFlags_psw (s : State) (cy ov sg z : Bool) :
    (s.setFlags cy ov sg z).psw = { s.psw with cy := cy, ov := ov, s := sg, z := z } := rfl

@[simp] theorem State.setFlags_sys (s : State) (cy ov sg z : Bool) : (s.setFlags cy ov sg z).sys = s.sys := rfl

@[simp] theorem State.setFlags_areas (s : State) (cy ov sg z : Bool) : (s.setFlags cy ov sg z).areas = s.areas := rfl

@[simp] theorem State.setFlags_run (s : State) (cy ov sg z : Bool) : (s.setFlags cy ov sg z).run = s.run := rfl

@[simp] theorem State.setFlags_req (s : State) (cy ov sg z : Bool) : (s.setFlags cy ov sg z).req = s.req := rfl

@[simp] theorem State.setFlags_mem (s : State) (cy ov sg z : Bool) : (s.setFlags cy ov sg z).mem = s.mem := rfl

@[simp] theorem State.setFlags_stale (s : State) (cy ov sg z : Bool) : (s.setFlags cy ov sg z).stale = s.stale := rfl

@[simp] theorem State.setFlags_freeCtr (s : State) (cy ov sg z : Bool) :
    (s.setFlags cy ov sg z).freeCtr = s.freeCtr := rfl

@[simp] theorem State.setFlags_eoi (s : State) (cy ov sg z : Bool) : (s.setFlags cy ov sg z).eoi = s.eoi := rfl

/-! ### setOvSZ -/

@[simp] theorem State.setOvSZ_product (s : State) (ov sg z : Bool) : (s.setOvSZ ov sg z).product = s.product := rfl

@[simp] theorem State.setOvSZ_gpr (s : State) (ov sg z : Bool) : (s.setOvSZ ov sg z).gpr = s.gpr := rfl

@[simp] theorem State.setOvSZ_pc (s : State) (ov sg z : Bool) : (s.setOvSZ ov sg z).pc = s.pc := rfl

@[simp] theorem State.setOvSZ_psw (s : State) (ov sg z : Bool) :
    (s.setOvSZ ov sg z).psw = { s.psw with ov := ov, s := sg, z := z } := rfl

@[simp] theorem State.setOvSZ_sys (s : State) (ov sg z : Bool) : (s.setOvSZ ov sg z).sys = s.sys := rfl

@[simp] theorem State.setOvSZ_areas (s : State) (ov sg z : Bool) : (s.setOvSZ ov sg z).areas = s.areas := rfl

@[simp] theorem State.setOvSZ_run (s : State) (ov sg z : Bool) : (s.setOvSZ ov sg z).run = s.run := rfl

@[simp] theorem State.setOvSZ_req (s : State) (ov sg z : Bool) : (s.setOvSZ ov sg z).req = s.req := rfl

@[simp] theorem State.setOvSZ_mem (s : State) (ov sg z : Bool) : (s.setOvSZ ov sg z).mem = s.mem := rfl

@[simp] theorem State.setOvSZ_stale (s : State) (ov sg z : Bool) : (s.setOvSZ ov sg z).stale = s.stale := rfl

@[simp] theorem State.setOvSZ_freeCtr (s : State) (ov sg z : Bool) : (s.setOvSZ ov sg z).freeCtr = s.freeCtr := rfl

@[simp] theorem State.setOvSZ_eoi (s : State) (ov sg z : Bool) : (s.setOvSZ ov sg z).eoi = s.eoi := rfl

/-! ### setZ -/

@[simp] theorem State.setZ_product (s : State) (z : Bool) : (s.setZ z).product = s.product := rfl

@[simp] theorem State.setZ_gpr (s : State) (z : Bool) : (s.setZ z).gpr = s.gpr := rfl

@[simp] theorem State.setZ_pc (s : State) (z : Bool) : (s.setZ z).pc = s.pc := rfl

@[simp] theorem State.setZ_psw (s : State) (z : Bool) :
    (s.setZ z).psw = { s.psw with z := z } := rfl

@[simp] theorem State.setZ_sys (s : State) (z : Bool) : (s.setZ z).sys = s.sys := rfl

@[simp] theorem State.setZ_areas (s : State) (z : Bool) : (s.setZ z).areas = s.areas := rfl

@[simp] theorem State.setZ_run (s : State) (z : Bool) : (s.setZ z).run = s.run := rfl

@[simp] theorem State.setZ_req (s : State) (z : Bool) : (s.setZ z).req = s.req := rfl

@[simp] theorem State.setZ_mem (s : State) (z : Bool) : (s.setZ z).mem = s.mem := rfl

@[simp] theorem State.setZ_stale (s : State) (z : Bool) : (s.setZ z).stale = s.stale := rfl

@[simp] theorem State.setZ_freeCtr (s : State) (z : Bool) : (s.setZ z).freeCtr = s.freeCtr := rfl

@[simp] theorem State.setZ_eoi (s : State) (z : Bool) : (s.setZ z).eoi = s.eoi := rfl

/-! ### storeByte -/

@[simp] theorem State.storeByte_product (s : State) (a : Word) (b : Byte) :
    (s.storeByte a b).product = s.product := rfl

@[simp] theorem State.storeByte_gpr (s : State) (a : Word) (b : Byte) : (s.storeByte a b).gpr = s.gpr := rfl

@[simp] theorem State.storeByte_pc (s : State) (a : Word) (b : Byte) : (s.storeByte a b).pc = s.pc := rfl

@[simp] theorem State.storeByte_psw (s : State) (a : Word) (b : Byte) : (s.storeByte a b).psw = s.psw := rfl

@[simp] theorem State.storeByte_sys (s : State) (a : Word) (b : Byte) : (s.storeByte a b).sys = s.sys := rfl

@[simp] theorem State.storeByte_areas (s : State) (a : Word) (b : Byte) : (s.storeByte a b).areas = s.areas := rfl

@[simp] theorem State.storeByte_run (s : State) (a : Word) (b : Byte) : (s.storeByte a b).run = s.run := rfl

@[simp] theorem State.storeByte_req (s : State) (a : Word) (b : Byte) : (s.storeByte a b).req = s.req := rfl

@[simp] theorem State.storeByte_mem (s : State) (a : Word) (b : Byte) :
    (s.storeByte a b).mem = s.mem.write a.toNat b := rfl

@[simp] theorem State.storeByte_freeCtr (s : State) (a : Word) (b : Byte) :
    (s.storeByte a b).freeCtr = s.freeCtr := rfl

@[simp] theorem State.storeByte_eoi (s : State) (a : Word) (b : Byte) : (s.storeByte a b).eoi = s.eoi := rfl

/-! ### markLoaded -/

@[simp] theorem State.markLoaded_product (s : State) (a : Word) (n : Nat) :
    (s.markLoaded a n).product = s.product := rfl

@[simp] theorem State.markLoaded_gpr (s : State) (a : Word) (n : Nat) : (s.markLoaded a n).gpr = s.gpr := rfl

@[simp] theorem State.markLoaded_pc (s : State) (a : Word) (n : Nat) : (s.markLoaded a n).pc = s.pc := rfl

@[simp] theorem State.markLoaded_psw (s : State) (a : Word) (n : Nat) : (s.markLoaded a n).psw = s.psw := rfl

@[simp] theorem State.markLoaded_sys (s : State) (a : Word) (n : Nat) : (s.markLoaded a n).sys = s.sys := rfl

@[simp] theorem State.markLoaded_areas (s : State) (a : Word) (n : Nat) : (s.markLoaded a n).areas = s.areas := rfl

@[simp] theorem State.markLoaded_run (s : State) (a : Word) (n : Nat) : (s.markLoaded a n).run = s.run := rfl

@[simp] theorem State.markLoaded_req (s : State) (a : Word) (n : Nat) : (s.markLoaded a n).req = s.req := rfl

@[simp] theorem State.markLoaded_mem (s : State) (a : Word) (n : Nat) : (s.markLoaded a n).mem = s.mem := rfl

@[simp] theorem State.markLoaded_freeCtr (s : State) (a : Word) (n : Nat) :
    (s.markLoaded a n).freeCtr = s.freeCtr := rfl

@[simp] theorem State.markLoaded_eoi (s : State) (a : Word) (n : Nat) : (s.markLoaded a n).eoi = s.eoi := rfl

/-! ### takeExceptionAt -/

@[simp] theorem State.takeExceptionAt_product (s : State) (x : Exception) (ret handler : Word) :
    (s.takeExceptionAt x ret handler).product = s.product := rfl

@[simp] theorem State.takeExceptionAt_gpr (s : State) (x : Exception) (ret handler : Word) :
    (s.takeExceptionAt x ret handler).gpr = s.gpr := rfl

@[simp] theorem State.takeExceptionAt_pc (s : State) (x : Exception) (ret handler : Word) :
    (s.takeExceptionAt x ret handler).pc = handler.even := rfl

@[simp] theorem State.takeExceptionAt_psw (s : State) (x : Exception) (ret handler : Word) :
    (s.takeExceptionAt x ret handler).psw = s.psw.acknowledge x := rfl

@[simp] theorem State.takeExceptionAt_areas (s : State) (x : Exception) (ret handler : Word) :
    (s.takeExceptionAt x ret handler).areas = s.areas := rfl

@[simp] theorem State.takeExceptionAt_run (s : State) (x : Exception) (ret handler : Word) :
    (s.takeExceptionAt x ret handler).run = .running := rfl

@[simp] theorem State.takeExceptionAt_req (s : State) (x : Exception) (ret handler : Word) :
    (s.takeExceptionAt x ret handler).req = s.req := rfl

@[simp] theorem State.takeExceptionAt_mem (s : State) (x : Exception) (ret handler : Word) :
    (s.takeExceptionAt x ret handler).mem = s.mem := rfl

@[simp] theorem State.takeExceptionAt_stale (s : State) (x : Exception) (ret handler : Word) :
    (s.takeExceptionAt x ret handler).stale = s.stale := rfl

@[simp] theorem State.takeExceptionAt_freeCtr (s : State) (x : Exception) (ret handler : Word) :
    (s.takeExceptionAt x ret handler).freeCtr = s.freeCtr := rfl

@[simp] theorem State.takeExceptionAt_eoi (s : State) (x : Exception) (ret handler : Word) :
    (s.takeExceptionAt x ret handler).eoi = s.eoi := rfl

/-! ### Reading registers and memory after an update that does not write them -/

/-- A register is a function of the register file. -/
theorem State.reg_congr {s t : State} (h : t.gpr = s.gpr) (r : Reg) : t.reg r = s.reg r := by
  unfold State.reg; rw [h]

/-- A byte is a function of memory. -/
theorem State.byteAt_congr {s t : State} (h : t.mem = s.mem) (a : Word) : t.byteAt a = s.byteAt a := by
  unfold State.byteAt; rw [h]

@[simp] theorem State.setReg_byteAt (s : State) (r : Reg) (v : Word) (b : Word) :
    (s.setReg r v).byteAt b = s.byteAt b := by
  unfold State.setReg; split <;> rfl

@[simp] theorem State.setPc_reg (s : State) (v : Word) (q : Reg) :
    (s.setPc v).reg q = s.reg q := rfl

@[simp] theorem State.setPc_byteAt (s : State) (v : Word) (b : Word) :
    (s.setPc v).byteAt b = s.byteAt b := rfl

@[simp] theorem State.advance_reg (s : State) (n : Nat) (q : Reg) :
    (s.advance n).reg q = s.reg q := rfl

@[simp] theorem State.advance_byteAt (s : State) (n : Nat) (b : Word) :
    (s.advance n).byteAt b = s.byteAt b := rfl

@[simp] theorem State.useFree_reg (s : State) (n : Nat) (q : Reg) :
    (s.useFree n).reg q = s.reg q := rfl

@[simp] theorem State.useFree_byteAt (s : State) (n : Nat) (b : Word) :
    (s.useFree n).byteAt b = s.byteAt b := rfl

@[simp] theorem State.setFlags_reg (s : State) (cy ov sg z : Bool) (q : Reg) :
    (s.setFlags cy ov sg z).reg q = s.reg q := rfl

@[simp] theorem State.setFlags_byteAt (s : State) (cy ov sg z : Bool) (b : Word) :
    (s.setFlags cy ov sg z).byteAt b = s.byteAt b := rfl

@[simp] theorem State.setOvSZ_reg (s : State) (ov sg z : Bool) (q : Reg) :
    (s.setOvSZ ov sg z).reg q = s.reg q := rfl

@[simp] theorem State.setOvSZ_byteAt (s : State) (ov sg z : Bool) (b : Word) :
    (s.setOvSZ ov sg z).byteAt b = s.byteAt b := rfl

@[simp] theorem State.setZ_reg (s : State) (z : Bool) (q : Reg) :
    (s.setZ z).reg q = s.reg q := rfl

@[simp] theorem State.setZ_byteAt (s : State) (z : Bool) (b : Word) :
    (s.setZ z).byteAt b = s.byteAt b := rfl

@[simp] theorem State.storeByte_reg (s : State) (a : Word) (b : Byte) (q : Reg) :
    (s.storeByte a b).reg q = s.reg q := rfl

@[simp] theorem State.markLoaded_reg (s : State) (a : Word) (n : Nat) (q : Reg) :
    (s.markLoaded a n).reg q = s.reg q := rfl

@[simp] theorem State.markLoaded_byteAt (s : State) (a : Word) (n : Nat) (b : Word) :
    (s.markLoaded a n).byteAt b = s.byteAt b := rfl

@[simp] theorem State.takeExceptionAt_reg (s : State) (x : Exception) (ret handler : Word) (q : Reg) :
    (s.takeExceptionAt x ret handler).reg q = s.reg q := rfl

@[simp] theorem State.takeExceptionAt_byteAt (s : State) (x : Exception) (ret handler : Word) (b : Word) :
    (s.takeExceptionAt x ret handler).byteAt b = s.byteAt b := rfl

/-! ### Registers -/

/-- r0 reads 0. -/
@[simp] theorem State.reg_zero (s : State) : s.reg 0 = 0 := rfl

/-- What a register reads after a write: the value written, but for r0, which reads 0. -/
theorem State.reg_setReg (s : State) (r : Reg) (v : Word) (q : Reg) :
    (s.setReg r v).reg q = if q = r ∧ q ≠ 0 then v else s.reg q := by
  unfold State.setReg State.reg
  by_cases hq : q = 0
  · simp [hq]
  · by_cases hr : r = 0
    · subst hr; simp
    · simp only [hr, hq, if_false, not_false_eq_true, and_true, ne_eq]
      rw [Vector.getElem_set]
      by_cases h : q = r
      · subst h; simp
      · have : r.toNat ≠ q.toNat := fun e => h (BitVec.eq_of_toNat_eq e.symm)
        simp [h, this]

/-- A write to r0 is discarded. -/
@[simp] theorem State.setReg_zero (s : State) (v : Word) : s.setReg 0 v = s := rfl

end Sys2Proof.Machine
end

