-- ==== Sys2Proof/Laws/Memory.lean ====
section
/-!
SUPPORT. The laws of memory: a read after a write, and that every operation keeps the canonical form.
-/
namespace Sys2Proof.Machine

open Sys2Proof

/-! ### One byte -/

theorem Memory.read_cons (k : Nat) (b : Byte) (m : Memory) (a : Nat) :
    Memory.read ((k, b) :: m) a = if k = a then b else Memory.read m a := rfl

/-- Erasing an address leaves every other one. -/
theorem Memory.read_erase (m : Memory) (a b : Nat) :
    (m.erase a).read b = if b = a then unlistedByte else m.read b := by
  induction m with
  | nil => simp [Memory.erase, Memory.read]
  | cons c m ih =>
    obtain ⟨k, v⟩ := c
    unfold Memory.erase at *
    by_cases hk : k = a
    · subst hk
      by_cases hb : b = k
      · simpa [hb] using ih
      · have : ¬ k = b := fun h => hb h.symm
        simpa [hb, Memory.read_cons, this] using ih
    · simp only [List.filter_cons, bne_iff_ne, ne_eq, hk, not_false_eq_true, if_true, Memory.read_cons, ih]
      by_cases hb : k = b
      · subst hb; simp [hk]
      · simp [hb]

/-- Inserting a fresh address changes that one. -/
theorem Memory.read_insert (m : Memory) (a : Nat) (v : Byte) (b : Nat) (hm : ∀ c ∈ m, c.1 ≠ a) :
    (m.insert a v).read b = if b = a then v else m.read b := by
  induction m with
  | nil => simp [Memory.insert, Memory.read, eq_comm]
  | cons c m ih =>
    obtain ⟨k, w⟩ := c
    have hk : k ≠ a := hm (k, w) (by simp)
    have ih := ih (fun c hc => hm c (by simp [hc]))
    unfold Memory.insert
    split
    · by_cases hb : b = a
      · simp [Memory.read_cons, hb]
      · simp [Memory.read_cons, hb, Ne.symm hb]
    · simp only [Memory.read_cons, ih]
      by_cases hb : b = a
      · subst hb; simp [hk]
      · simp [hb]

theorem Memory.mem_erase {m : Memory} {a : Nat} {c : Host.Cell} (h : c ∈ m.erase a) : c ∈ m ∧ c.1 ≠ a := by
  simpa [Memory.erase] using h

/-- A read after a write: the byte written at its address, every other address as before. -/
theorem Memory.read_write (m : Memory) (a : Nat) (v : Byte) (b : Nat) :
    (m.write a v).read b = if b = a then v else m.read b := by
  unfold Memory.write
  split
  · rename_i hv; rw [Memory.read_erase, hv]
  · rw [Memory.read_insert _ _ _ _ fun c hc => (Memory.mem_erase hc).2, Memory.read_erase]
    by_cases hb : b = a <;> simp [hb]

/-! ### The canonical form -/

/-- What the canonical form says of the first entry. -/
theorem Memory.wfFrom_cons (lo k : Nat) (v : Byte) (m : Memory) :
    Memory.wfFrom lo ((k, v) :: m) = true ↔
      lo ≤ k ∧ k < 2 ^ 32 ∧ v ≠ unlistedByte ∧ Memory.wfFrom (k + 1) m = true := by
  simp [Memory.wfFrom, and_assoc]

theorem Memory.wfFrom_mono {m : Memory} {lo lo' : Nat} (h : lo' ≤ lo) (hm : m.wfFrom lo = true) :
    m.wfFrom lo' = true := by
  cases m with
  | nil => rfl
  | cons c m =>
    rw [Memory.wfFrom_cons] at *
    exact ⟨Nat.le_trans h hm.1, hm.2⟩

theorem Memory.wfFrom_erase {m : Memory} {lo : Nat} (a : Nat) (hm : m.wfFrom lo = true) :
    (m.erase a).wfFrom lo = true := by
  induction m generalizing lo with
  | nil => rfl
  | cons c m ih =>
    obtain ⟨k, v⟩ := c
    rw [Memory.wfFrom_cons] at hm
    unfold Memory.erase at *
    by_cases hk : k = a
    · simp only [List.filter_cons, hk, bne_self_eq_false, Bool.false_eq_true, if_false]
      exact Memory.wfFrom_mono (by omega) (ih hm.2.2.2)
    · simp only [List.filter_cons, bne_iff_ne, ne_eq, hk, not_false_eq_true, if_true, Memory.wfFrom_cons]
      exact ⟨hm.1, hm.2.1, hm.2.2.1, ih hm.2.2.2⟩

theorem Memory.wfFrom_insert {m : Memory} {lo : Nat} (a : Nat) (v : Byte) (ha : lo ≤ a) (hi : a < 2 ^ 32)
    (hv : v ≠ unlistedByte) (hne : ∀ c ∈ m, c.1 ≠ a) (hm : m.wfFrom lo = true) : (m.insert a v).wfFrom lo = true := by
  induction m generalizing lo with
  | nil => exact (Memory.wfFrom_cons _ _ _ _).2 ⟨ha, hi, hv, rfl⟩
  | cons c m ih =>
    obtain ⟨k, w⟩ := c
    have hk : k ≠ a := hne (k, w) (by simp)
    have hm' := (Memory.wfFrom_cons _ _ _ _).1 hm
    unfold Memory.insert
    split
    · rename_i hlt
      exact (Memory.wfFrom_cons _ _ _ _).2 ⟨ha, hi, hv, (Memory.wfFrom_cons _ _ _ _).2 ⟨hlt, hm'.2⟩⟩
    · have := ih (lo := k + 1) (by omega) (fun c hc => hne c (by simp [hc])) hm'.2.2.2
      exact (Memory.wfFrom_cons _ _ _ _).2 ⟨hm'.1, hm'.2.1, hm'.2.2.1, this⟩

/-- Every write keeps the canonical form. -/
theorem Memory.wf_write {m : Memory} (a : Nat) (v : Byte) (ha : a < 2 ^ 32) (hm : m.wf = true) :
    (m.write a v).wf = true := by
  unfold Memory.wf Memory.write at *
  split
  · exact Memory.wfFrom_erase a hm
  · rename_i hv
    exact Memory.wfFrom_insert a v (by omega) ha hv (fun c hc => (Memory.mem_erase hc).2) (Memory.wfFrom_erase a hm)

/-- Memory at reset has the canonical form. -/
theorem Memory.wf_reset : State.reset.mem.wf = true := rfl

/-! ### The state's memory -/

/-- A byte read after one was stored. -/
theorem State.byteAt_storeByte (s : State) (a : Word) (v : Byte) (b : Word) :
    (s.storeByte a v).byteAt b = if b = a then v else s.byteAt b := by
  unfold State.byteAt
  rw [State.storeByte_mem, Memory.read_write]
  by_cases h : b = a
  · simp [h]
  · have : b.toNat ≠ a.toNat := fun e => h (BitVec.eq_of_toNat_eq e)
    simp [h, this]

/-- Storing a byte keeps the canonical form. -/
theorem State.wf_storeByte {s : State} (a : Word) (v : Byte) (h : s.mem.wf = true) : (s.storeByte a v).mem.wf = true :=
  Memory.wf_write _ _ a.isLt h

/-- Storing bytes keeps the canonical form. -/
theorem State.wf_writeLE {s : State} (a : Word) (v : Dword) (n : Nat) (h : s.mem.wf = true) :
    (s.writeLE a v n).mem.wf = true := by
  induction n generalizing s a v with
  | zero => exact h
  | succ n ih => exact ih _ _ (State.wf_storeByte a _ h)

/-- What storing bytes leaves: memory and the stale bytes may change, nothing else. -/
theorem State.writeLE_frame (s : State) (a : Word) (v : Dword) (n : Nat) :
    s.writeLE a v n = { s with mem := (s.writeLE a v n).mem, stale := (s.writeLE a v n).stale } := by
  induction n generalizing s a v with
  | zero => rfl
  | succ n ih =>
    rw [State.writeLE, ih]
    rfl

/-- A byte outside the `n` bytes stored from `a` on is as before. -/
theorem State.byteAt_writeLE_of_le (s : State) (a : Word) (v : Dword) (n : Nat) (hn : n ≤ 2 ^ 32) (b : Word)
    (h : n ≤ (b - a).toNat) : (s.writeLE a v n).byteAt b = s.byteAt b := by
  induction n generalizing s a v with
  | zero => rfl
  | succ n ih =>
    rw [State.writeLE, ih _ _ _ (by omega) (by bv_omega), State.byteAt_storeByte]
    have : b ≠ a := by rintro rfl; simp at h
    simp [this]

/-- Byte `k` of the `n` bytes stored from `a` on. -/
theorem State.byteAt_writeLE_of_lt (s : State) (a : Word) (v : Dword) (n : Nat) (hn : n ≤ 2 ^ 32) (k : Nat) (h : k < n) :
    (s.writeLE a v n).byteAt (a + BitVec.ofNat 32 k) = v.extractLsb' (8 * k) 8 := by
  induction n generalizing s a v k with
  | zero => omega
  | succ n ih =>
    rw [State.writeLE]
    cases k with
    | zero =>
      rw [State.byteAt_writeLE_of_le _ _ _ _ (by omega) _ (by bv_omega), State.byteAt_storeByte]
      simp
      ext i hi; simp
    | succ k =>
      have e : a + BitVec.ofNat 32 (k + 1) = a + 1 + BitVec.ofNat 32 k := by bv_omega
      rw [e, ih _ _ _ (by omega) k (by omega)]
      ext i hi
      simp
      congr 1
      omega

/-! ### Little-endian reads (spec/20_memory.md R100) -/

theorem State.readLE_one (s : State) (a : Word) : s.readLE a 1 = (s.byteAt a).setWidth 64 := by
  simp [State.readLE]

end Sys2Proof.Machine
end

