-- ==== Sys2Proof/Laws/Access.lean ====
section
/-!
SUPPORT. What a data access can do: its value where it is made, and what each outcome leaves.
-/
namespace Sys2Proof.Machine

open Sys2Proof

/-! ### The value of a read (spec/20_memory.md R100) -/

theorem signByte_readLE (s : State) (a : Word) : signByte (s.readLE a 1) = (s.byteAt a).signExtend 32 := by
  unfold signByte
  congr 1
  ext i hi
  simp [State.readLE]

theorem zeroByte_readLE (s : State) (a : Word) : zeroByte (s.readLE a 1) = (s.byteAt a).setWidth 32 := by
  unfold zeroByte
  congr 1
  ext i hi
  simp [State.readLE]

/-- Bit `i` of a little-endian read: bit `i % 8` of byte `i / 8`. -/
theorem getLsbD_readLE (s : State) (a : Word) (n i : Nat) (hi : i < 64) :
    (s.readLE a n).getLsbD i = (decide (i < 8 * n) && (s.byteAt (a + BitVec.ofNat 32 (i / 8))).getLsbD (i % 8)) := by
  induction n generalizing a i with
  | zero => simp [State.readLE]
  | succ n ih =>
    simp only [State.readLE, BitVec.getLsbD_or, BitVec.getLsbD_setWidth, BitVec.getLsbD_shiftLeft, hi, decide_true,
      Bool.true_and]
    by_cases h : i < 8
    · have h0 : i / 8 = 0 := by omega
      have h1 : i % 8 = i := by omega
      simp [h, h0, h1]; omega
    · have hz : (s.byteAt a).getLsbD i = false := BitVec.getLsbD_of_ge _ _ (by omega)
      rw [ih _ _ (by omega)]
      have e1 : (i - 8) / 8 + 1 = i / 8 := by omega
      have e2 : (i - 8) % 8 = i % 8 := by omega
      have e3 : a + 1 + BitVec.ofNat 32 ((i - 8) / 8) = a + BitVec.ofNat 32 (i / 8) := by
        rw [← e1]; bv_omega
      rw [e3, e2]
      have e4 : (i - 8 < 8 * n) = (i < 8 * (n + 1)) := by simp; omega
      simp [h, hz, e4]

/-- The low halfword of a read of two bytes or more. -/
theorem setWidth_readLE_half (s : State) (a : Word) : (s.readLE a 2).setWidth 16 = s.halfAt a := by
  apply BitVec.eq_of_getLsbD_eq
  intro i hi
  rw [BitVec.getLsbD_setWidth, getLsbD_readLE _ _ _ _ (by omega)]
  simp only [State.halfAt, BitVec.getLsbD_append]
  by_cases h : i < 8
  · have h0 : i / 8 = 0 := by omega
    have h1 : i % 8 = i := by omega
    simp [h, h0, h1, hi]
  · have h0 : i / 8 = 1 := by omega
    have h1 : i % 8 = i - 8 := by omega
    simp [h, h0, h1, hi]

theorem signHalf_readLE (s : State) (a : Word) : signHalf (s.readLE a 2) = (s.halfAt a).signExtend 32 := by
  unfold signHalf; rw [setWidth_readLE_half]

theorem zeroHalf_readLE (s : State) (a : Word) : zeroHalf (s.readLE a 2) = (s.halfAt a).setWidth 32 := by
  unfold zeroHalf; rw [setWidth_readLE_half]

/-- Bit `i` of a word of memory. -/
theorem getLsbD_wordAt (s : State) (a : Word) (i : Nat) (hi : i < 32) :
    (s.wordAt a).getLsbD i = (s.byteAt (a + BitVec.ofNat 32 (i / 8))).getLsbD (i % 8) := by
  simp only [State.wordAt, BitVec.getLsbD_append]
  rcases (by omega : i / 8 = 0 ∨ i / 8 = 1 ∨ i / 8 = 2 ∨ i / 8 = 3) with h | h | h | h
  · have h1 : i % 8 = i := by omega
    have h2 : i < 8 := by omega
    simp [h, h1, h2]
  · have h1 : i % 8 = i - 8 := by omega
    have h2 : ¬ i < 8 := by omega
    have h3 : i - 8 < 8 := by omega
    simp [h, h1, h2, h3]
  · have h1 : i % 8 = i - 8 - 8 := by omega
    have h2 : ¬ i < 8 := by omega
    have h3 : ¬ i - 8 < 8 := by omega
    have h4 : i - 8 - 8 < 8 := by omega
    simp [h, h1, h2, h3, h4]
  · have h1 : i % 8 = i - 8 - 8 - 8 := by omega
    have h2 : ¬ i < 8 := by omega
    have h3 : ¬ i - 8 < 8 := by omega
    have h4 : ¬ i - 8 - 8 < 8 := by omega
    simp [h, h1, h2, h3, h4]

theorem low_readLE (s : State) (a : Word) (n : Nat) (hn : 4 ≤ n) : (s.readLE a n).low = s.wordAt a := by
  apply BitVec.eq_of_getLsbD_eq
  intro i hi
  rw [getLsbD_wordAt _ _ _ hi]
  simp only [Dword.low, BitVec.getLsbD_extractLsb', hi, decide_true, Bool.true_and, Nat.zero_add]
  rw [getLsbD_readLE _ _ _ _ (by omega)]
  have : i < 8 * n := by omega
  simp [this]

theorem high_readLE (s : State) (a : Word) : (s.readLE a 8).high = s.wordAt (a + 4) := by
  apply BitVec.eq_of_getLsbD_eq
  intro i hi
  rw [getLsbD_wordAt _ _ _ hi]
  simp only [Dword.high, BitVec.getLsbD_extractLsb', hi, decide_true, Bool.true_and]
  rw [getLsbD_readLE _ _ _ _ (by omega)]
  have e1 : (32 + i) / 8 = 4 + i / 8 := by omega
  have e2 : (32 + i) % 8 = i % 8 := by omega
  have e3 : a + BitVec.ofNat 32 (4 + i / 8) = a + 4 + BitVec.ofNat 32 (i / 8) := by bv_omega
  have : 32 + i < 64 := by omega
  simp [e1, e2, e3, this]

/-! ### The checks -/

/-- Where an access may be made, no check raises an exception. -/
theorem State.checkAccess_none {s : State} {t : AccessTag} {um rd wr : Bool} {a : Word} {n : Nat} :
    s.checkAccess t um rd wr a n = none ↔
      s.maeApplies a n = false ∧ (rd = true → s.mpuAllowsAll um .read a n = true) ∧
        (wr = true → s.mpuAllowsAll um .write a n = true) := by
  unfold State.checkAccess
  cases s.maeApplies a n <;> cases rd <;> cases wr <;> cases s.mpuAllowsAll um .read a n <;>
    cases s.mpuAllowsAll um .write a n <;> simp

/-- A misaligned access raises MAE before any other check. -/
theorem State.checkAccess_mae {s : State} {t : AccessTag} {um rd wr : Bool} {a : Word} {n : Nat}
    (h : s.maeApplies a n = true) : s.checkAccess t um rd wr a n = some (s.raiseMae t a) := by
  simp [State.checkAccess, h]

/-- A refused access raises MDP, with the kinds that are refused. -/
theorem State.checkAccess_mdp {s : State} {t : AccessTag} {um rd wr : Bool} {a : Word} {n : Nat}
    (h : s.maeApplies a n = false)
    (hr : (rd && !s.mpuAllowsAll um .read a n) || (wr && !s.mpuAllowsAll um .write a n)) :
    s.checkAccess t um rd wr a n =
      some (s.raiseMdp t um a n (rd && !s.mpuAllowsAll um .read a n) (wr && !s.mpuAllowsAll um .write a n)) := by
  simp [State.checkAccess, h, hr]

/-! ### The accesses -/

/-- A read that may be made gives the bytes, and marks stale bytes as read back. -/
theorem State.memRead_of_canRead {s : State} {t : AccessTag} {um : Bool} {a : Word} {n : Nat} (h : CanRead s um a n) :
    s.memRead t um a n = .done (s.readLE a n) (s.markLoaded a n) := by
  have hc : s.checkAccess t um true false a n = none :=
    State.checkAccess_none.2 ⟨h.1, fun _ => h.2.1, fun h => by cases h⟩
  simp [State.memRead, hc, State.accessRead, h.2.2]

/-- A write that may be made stores the bytes. -/
theorem State.memWrite_of_canWrite {s : State} {t : AccessTag} {a : Word} {n : Nat} {v : Dword} (h : CanWrite s a n) :
    s.memWrite t a n v = .done () (s.writeLE a v n) := by
  have hc : s.checkAccess t s.psw.um false true a n = none :=
    State.checkAccess_none.2 ⟨h.1, (fun h => by cases h), fun _ => h.2.1⟩
  simp [State.memWrite, hc, State.accessWrite, h.2.2]

/-- A read and write back that may be made. -/
theorem State.memModify_of_can {s : State} {t : AccessTag} {a : Word} {n : Nat} {f : Dword → Dword}
    (hr : CanRead s s.psw.um a n) (hw : CanWrite s a n) :
    s.memModify t a n f = .done (s.readLE a n) ((s.markLoaded a n).writeLE a (f (s.readLE a n)) n) := by
  have hc : s.checkAccess t s.psw.um true true a n = none :=
    State.checkAccess_none.2 ⟨hr.1, fun _ => hr.2.1, fun _ => hw.2.1⟩
  have hp : ∀ (m : Nat) (b : Word), (s.markLoaded a n).plainAll b m = s.plainAll b m := by
    intro m
    induction m with
    | zero => intro b; rfl
    | succ m ih =>
      intro b
      simp only [State.plainAll, ih]
      rfl
  simp [State.memModify, hc, State.accessRead, State.accessWrite, hr.2.2, Access.bind, hp]

/-- A reported error changes the request alone. -/
theorem State.reportError_eq (s : State) (e : Option (BitVec 4)) :
    ∃ c, s.reportError e = { s with req := { s.req with syserr := c } } := by
  cases e with
  | none => exact ⟨s.req.syserr, rfl⟩
  | some c => exact ⟨some c, rfl⟩

/-- What a read that passed its checks can do. -/
theorem State.accessRead_cases (s : State) (a : Word) (n : Nat) :
    s.accessRead a n = .stopped .deviceAccess ∨
    ∃ v st fc e, s.accessRead a n =
      .done v { s with stale := st, freeCtr := fc, req := { s.req with syserr := e } } := by
  unfold State.accessRead
  split
  · exact .inr ⟨s.readLE a n, (s.markLoaded a n).stale, s.freeCtr, s.req.syserr, rfl⟩
  · split
    · exact .inl rfl
    · obtain ⟨c, hc⟩ := ((s.markLoaded a n).useFree n).reportError_eq (s.accessError a n)
      rw [hc]
      exact .inr ⟨s.readMixed a 0 n, (s.markLoaded a n).stale, s.freeCtr + n, c, rfl⟩

/-- Everything a read can do: it takes an exception with no other effect, it stops at a device, or it gives a value in a
state that differs only in the stale marks, the free value counter and the reported error. -/
theorem State.memRead_cases (s : State) (t : AccessTag) (um : Bool) (a : Word) (n : Nat) :
    (∃ x, s.checkAccess t um true false a n = some x ∧ s.memRead t um a n = .raised x) ∨
    s.memRead t um a n = .stopped .deviceAccess ∨
    ∃ v st fc e, s.memRead t um a n =
      .done v { s with stale := st, freeCtr := fc, req := { s.req with syserr := e } } := by
  unfold State.memRead
  cases hc : s.checkAccess t um true false a n with
  | some x => exact .inl ⟨x, rfl, rfl⟩
  | none => exact .inr (s.accessRead_cases a n)

/-- Storing where some addresses are not memory changes memory and the stale bytes alone. -/
theorem State.writeMixed_frame (s : State) (a : Word) (v : Dword) (n : Nat) :
    s.writeMixed a v n = { s with mem := (s.writeMixed a v n).mem, stale := (s.writeMixed a v n).stale } := by
  induction n generalizing s a v with
  | zero => rfl
  | succ n ih =>
    simp only [State.writeMixed]
    split
    · rw [ih]; rfl
    · rw [ih]

/-- What a write that passed its checks can do. -/
theorem State.accessWrite_cases (s : State) (a : Word) (n : Nat) (v : Dword) :
    s.accessWrite a n v = .stopped .deviceAccess ∨
    ∃ m st e, s.accessWrite a n v =
      .done () { s with mem := m, stale := st, req := { s.req with syserr := e } } := by
  unfold State.accessWrite
  split
  · refine .inr ⟨(s.writeLE a v n).mem, (s.writeLE a v n).stale, s.req.syserr, ?_⟩
    rw [State.writeLE_frame]
  · split
    · exact .inl rfl
    · obtain ⟨c, hc⟩ := (s.writeMixed a v n).reportError_eq (s.accessError a n)
      rw [hc, State.writeMixed_frame]
      exact .inr ⟨(s.writeMixed a v n).mem, (s.writeMixed a v n).stale, c, rfl⟩

/-- Everything a write can do: it takes an exception with no other effect, it stops at a device, or it changes only
memory, the stale bytes and the reported error. -/
theorem State.memWrite_cases (s : State) (t : AccessTag) (a : Word) (n : Nat) (v : Dword) :
    (∃ x, s.checkAccess t s.psw.um false true a n = some x ∧ s.memWrite t a n v = .raised x) ∨
    s.memWrite t a n v = .stopped .deviceAccess ∨
    ∃ m st e, s.memWrite t a n v =
      .done () { s with mem := m, stale := st, req := { s.req with syserr := e } } := by
  unfold State.memWrite
  cases hc : s.checkAccess t s.psw.um false true a n with
  | some x => exact .inl ⟨x, rfl, rfl⟩
  | none => exact .inr (s.accessWrite_cases a n v)

/-! ### A write reaches only the bytes it names -/

/-- A byte outside the `n` bytes of a store is as before, also where some are not memory. -/
theorem State.byteAt_writeMixed_of_le (s : State) (a : Word) (v : Dword) (n : Nat) (hn : n ≤ 2 ^ 32) (b : Word)
    (h : n ≤ (b - a).toNat) : (s.writeMixed a v n).byteAt b = s.byteAt b := by
  induction n generalizing s a v with
  | zero => rfl
  | succ n ih =>
    have hb : b ≠ a := by rintro rfl; simp at h
    simp only [State.writeMixed]
    rw [ih _ _ _ (by omega) (by bv_omega)]
    split
    · rw [State.byteAt_storeByte]; simp [hb]
    · rfl

/-- Storing where some addresses are not memory keeps the canonical form. -/
theorem State.wf_writeMixed {s : State} (a : Word) (v : Dword) (n : Nat) (h : s.mem.wf = true) :
    (s.writeMixed a v n).mem.wf = true := by
  induction n generalizing s a v with
  | zero => exact h
  | succ n ih =>
    simp only [State.writeMixed]
    split
    · exact ih _ _ (State.wf_storeByte a _ h)
    · exact ih _ _ h

end Sys2Proof.Machine
end

