-- ==== Sys2Proof/Laws/Encoding.lean ====
section
/-!
SUPPORT. The fields of a halfword as numbers, and the length rule of spec/30_encoding.md R161 on them.
-/
namespace Sys2Proof

/-- A field has a value where the number has it. -/
theorem extract_eq_iff {w : Nat} (h : BitVec w) (s l : Nat) (c : BitVec l) :
    h.extractLsb' s l = c ↔ h.toNat / 2 ^ s % 2 ^ l = c.toNat := by
  rw [← BitVec.toNat_inj, BitVec.extractLsb'_toNat, Nat.shiftRight_eq_div_pow]
/-- Two fields put together, as a number. -/
theorem toNat_append_eq {m n : Nat} (x : BitVec m) (y : BitVec n) : (x ++ y).toNat = x.toNat * 2 ^ n + y.toNat := by
  rw [BitVec.toNat_append, Nat.shiftLeft_eq, Nat.mul_comm, Nat.two_pow_add_eq_or_of_lt y.isLt]
/-- The length rule of spec/30_encoding.md R161 on the numbers of the first two halfwords. -/
def lenNat (a b : Nat) : Nat :=
  if a / 512 % 4 ≠ 3 then if a / 32 % 64 = 23 ∧ a / 2048 = 0 then 6 else 2
  else if a / 32 % 64 = 49 ∧ a / 2048 = 0 then 6
  else if a / 32 % 64 = 55 ∧ a / 2048 = 0 ∧ b % 2 = 0 then 6
  else if a / 64 % 32 = 30 ∧ a / 2048 = 0 ∧ b % 2 = 1 then
    if b % 32 = 1 then 4
    else if b % 8 = 3 then if b / 8 % 4 = 0 then 4 else if b / 8 % 4 = 3 then 8 else 6
    else 6
  else 4
/-- `instrLength` computes the rule on numbers. -/
theorem instrLength_eq (h1 h2 : Half) : instrLength h1 h2 = lenNat h1.toNat h2.toNat := by
  have e11 : (fieldHigh h1 = 0) = (h1.toNat / 2048 = 0) := by
    unfold fieldHigh; rw [extract_eq_iff]; simp; omega
  have eb : bit16 h2 = decide (h2.toNat % 2 = 1) := by
    simp [bit16, BitVec.getLsbD, Nat.testBit_zero]
  have em := (extract_eq_iff h2 3 2 _).1 rfl
  have ec : ∀ c : BitVec 2, c = 0#2 ∨ c = 1#2 ∨ c = 2#2 ∨ c = 3#2 := by decide
  unfold instrLength lenNat
  simp only [eb, fieldOp, fieldLow, bne_iff_ne, ne_eq, extract_eq_iff, Bool.and_eq_true, beq_iff_eq, e11,
    Bool.not_eq_true', decide_eq_true_eq, decide_eq_false_iff_not]
  generalize h2.extractLsb' 3 2 = c at em ⊢
  rcases ec c with rfl | rfl | rfl | rfl <;> simp at em <;> simp [and_assoc, em]

/-- Two bytes: the major opcode does not start with 11. -/
theorem lenNat_two {a b : Nat} (h : a / 512 % 4 ≠ 3) (h' : a / 32 % 64 ≠ 23 ∨ a / 2048 ≠ 0) : lenNat a b = 2 := by
  unfold lenNat
  rw [if_pos h, if_neg (by omega)]
/-- Six bytes: JARL and JR with a 32-bit displacement. -/
theorem lenNat_jarl32 {a b : Nat} (h : a / 32 % 64 = 23) (h' : a / 2048 = 0) : lenNat a b = 6 := by
  unfold lenNat
  rw [if_pos (by omega), if_pos ⟨h, h'⟩]
/-- Six bytes: MOV with a 32-bit immediate. -/
theorem lenNat_mov32 {a b : Nat} (h : a / 32 % 64 = 49) (h' : a / 2048 = 0) : lenNat a b = 6 := by
  unfold lenNat
  rw [if_neg (by omega), if_pos ⟨h, h'⟩]
/-- Six bytes: JMP with a 32-bit displacement. -/
theorem lenNat_jmp32 {a b : Nat} (h : a / 32 % 64 = 55) (h' : a / 2048 = 0) (hb : b % 2 = 0) : lenNat a b = 6 := by
  unfold lenNat
  rw [if_neg (by omega), if_neg (by omega), if_pos ⟨h, h', hb⟩]
/-- Four bytes: a major opcode that starts with 11, outside the longer rows. -/
theorem lenNat_four {a b : Nat} (h : a / 512 % 4 = 3)
    (h' : a / 2048 ≠ 0 ∨
      (a / 32 % 64 ≠ 49 ∧ (a / 32 % 64 ≠ 55 ∨ b % 2 = 1) ∧ (a / 64 % 32 ≠ 30 ∨ b % 2 = 0))) :
    lenNat a b = 4 := by
  unfold lenNat
  rw [if_neg (by omega), if_neg (by omega), if_neg (by omega), if_neg (by omega)]
/-- Four bytes: PREPARE without an immediate. -/
theorem lenNat_prepare4 {a b : Nat} (h : a / 64 % 32 = 30) (h' : a / 2048 = 0) (hb : b % 32 = 1 ∨ b % 32 = 3) :
    lenNat a b = 4 := by
  unfold lenNat
  rw [if_neg (by omega), if_neg (by omega), if_neg (by omega), if_pos (by omega)]
  split_ifs <;> omega
/-- Six bytes: PREPARE with a 16-bit immediate, and Format XIV. -/
theorem lenNat_long6 {a b : Nat} (h : a / 64 % 32 = 30) (h' : a / 2048 = 0) (hb : b % 2 = 1) (h1 : b % 32 ≠ 1)
    (h3 : b % 8 = 3 → b / 8 % 4 = 1 ∨ b / 8 % 4 = 2) : lenNat a b = 6 := by
  unfold lenNat
  rw [if_neg (by omega), if_neg (by omega), if_neg (by omega), if_pos (by omega), if_neg h1]
  split_ifs <;> omega
/-- Eight bytes: PREPARE with a 32-bit immediate. -/
theorem lenNat_prepare8 {a b : Nat} (h : a / 64 % 32 = 30) (h' : a / 2048 = 0) (hb : b % 32 = 27) :
    lenNat a b = 8 := by
  unfold lenNat
  rw [if_neg (by omega), if_neg (by omega), if_neg (by omega), if_pos (by omega), if_neg (by omega),
    if_pos (by omega), if_neg (by omega), if_pos (by omega)]

end Sys2Proof
end

