-- ==== Sys2Proof/Laws/Exception.lean ====
section
/-!
SUPPORT. What taking an exception leaves (spec/60_exceptions.md R420, R440).
-/
namespace Sys2Proof.Machine

open Sys2Proof

/-! ### Even words -/

/-- Clearing bit 0. -/
theorem Word.getLsbD_even (v : Word) (i : Nat) : (Word.even v).getLsbD i = (v.getLsbD i && decide (i ≠ 0)) := by
  unfold Word.even
  by_cases h : i < 32
  · have h32 : i ∈ List.range 32 := List.mem_range.2 h
    have key : ∀ j ∈ List.range 32, (0xFFFFFFFE#32).getLsbD j = decide (j ≠ 0) := by decide
    rw [BitVec.getLsbD_and, key i h32]
  · rw [BitVec.getLsbD_and, BitVec.getLsbD_of_ge _ _ (by omega : 32 ≤ i)]; simp

/-- An even word is its own even part. -/
theorem Word.even_eq {v : Word} (h : v.getLsbD 0 = false) : Word.even v = v := by
  apply BitVec.eq_of_getLsbD_eq
  intro i _
  rw [Word.getLsbD_even]
  by_cases h0 : i = 0
  · subst h0; rw [h]; rfl
  · simp [h0]

/-- An even word has bit 0 clear. -/
theorem Word.getLsbD_even_zero (v : Word) : (Word.even v).getLsbD 0 = false := by
  rw [Word.getLsbD_even]; exact Bool.and_false _

/-- Bit 0 of a sum. -/
theorem Word.getLsbD_add_zero (a b : Word) : (a + b).getLsbD 0 = (a.getLsbD 0 ^^ b.getLsbD 0) := by
  rw [BitVec.getLsbD_add (by omega), BitVec.carry_zero]
  simp

/-! ### The handler address -/

/-- The base of the handlers: the low nine bits dropped. -/
theorem base_eq (b : Word) : (b.extractLsb' 9 23 ++ 0#9 : BitVec 32) = b &&& 0xFFFFFE00#32 := by
  apply BitVec.eq_of_getLsbD_eq
  intro i hi
  have key : ∀ j ∈ List.range 32, (0xFFFFFE00#32).getLsbD j = decide (9 ≤ j) := by decide
  rw [BitVec.getLsbD_and, key i (List.mem_range.2 hi), BitVec.getLsbD_append, BitVec.getLsbD_extractLsb']
  by_cases h : i < 9
  · simp [h]
  · have h1 : i - 9 < 23 := by omega
    have h2 : 9 + (i - 9) = i := by omega
    simp [h, h1, h2]
    intro _; omega

/-- An exception but for EIINT has its handler at the base plus its offset. -/
theorem State.handlerAddress_eq (s : State) (x : Exception) (h : ∀ c p, x ≠ .eiint c p) :
    s.handlerAddress x = s.vector (s.psw.ebv && !x.clearsEbv) x.offset := by
  unfold State.handlerAddress State.vector State.baseRegister
  cases x <;> first | (exact absurd rfl (h _ _)) | simp only [base_eq]

/-- A handler at an even offset is at an even address. -/
theorem State.vector_even (s : State) (ebv : Bool) (off : Word) (h : off.getLsbD 0 = false) :
    (s.vector ebv off).getLsbD 0 = false := by
  unfold State.vector
  rw [Word.getLsbD_add_zero, h, BitVec.getLsbD_and]
  have : (0xFFFFFE00#32).getLsbD 0 = false := by decide
  rw [this]
  simp

/-- The offsets of Table 4-3 are even. -/
theorem Exception.offset_even (x : Exception) : x.offset.getLsbD 0 = false := by
  cases x with
  | eiint c p =>
    have : ∀ q : BitVec 3, (0x100#32 + 0x10#32 * q.setWidth 32).getLsbD 0 = false := by decide
    exact this p
  | trap v => unfold Exception.offset; dsimp only; split <;> rfl
  | _ => simp [Exception.offset]

/-- Taking an exception but for EIINT by the direct vector method: the row of Table 4-1. -/
theorem State.takeException_acknowledged (s : State) (x : Exception) (ret : Word) (h : ∀ c p, x ≠ .eiint c p) :
    Acknowledged s (s.takeException x ret) ⟨x.feLevel, x.code, x.epAfter, x.clearsEbv⟩ s.sys ret
      (s.vector (s.psw.ebv && !x.clearsEbv) x.offset) := by
  refine ⟨?_, rfl, ?_, rfl, fun _ => rfl, fun _ => rfl, rfl, rfl, rfl⟩
  · unfold State.takeException State.takeExceptionAt
    cases x.feLevel <;> rfl
  · unfold State.takeException
    rw [State.takeExceptionAt_pc, s.handlerAddress_eq x h]
    exact Word.even_eq (s.vector_even _ _ x.offset_even)

/-- Taking an exception leaves the requests. -/
@[simp] theorem State.takeException_req (s : State) (x : Exception) (ret : Word) :
    (s.takeException x ret).req = s.req := rfl

end Sys2Proof.Machine
end

