-- ==== Sys2Proof/Laws/Operations.lean ====
section
/-!
SUPPORT. What the block transfers, the read-modify-write access and the fetch can do, the checks over the
bytes of an access, byte by byte, and which requests and fetch errors stand.
-/
namespace Sys2Proof.Machine

open Sys2Proof

/-! ### The checks, byte by byte -/

/-- Every byte of an access is permitted. -/
theorem State.mpuAllowsAll_iff (s : State) (um : Bool) (k : AccessKind) (a : Word) (n : Nat) :
    s.mpuAllowsAll um k a n = true ↔ ∀ i < n, s.mpuAllows um k (a + BitVec.ofNat 32 i) = true := by
  induction n generalizing a with
  | zero => simp [State.mpuAllowsAll]
  | succ n ih =>
    have e : ∀ i, a + 1 + BitVec.ofNat 32 i = a + BitVec.ofNat 32 (i + 1) := fun i => by bv_omega
    simp only [State.mpuAllowsAll, Bool.and_eq_true, ih, e]
    constructor
    · rintro ⟨h0, h⟩ i hi
      cases i with
      | zero => simpa using h0
      | succ i => exact h i (by omega)
    · intro h
      exact ⟨by simpa using h 0 (by omega), fun i hi => h (i + 1) (by omega)⟩

/-- Every byte of an access is memory. -/
theorem State.plainAll_iff (s : State) (a : Word) (n : Nat) :
    s.plainAll a n = true ↔ ∀ i < n, s.kindAt (a + BitVec.ofNat 32 i) = .plain := by
  induction n generalizing a with
  | zero => simp [State.plainAll]
  | succ n ih =>
    have e : ∀ i, a + 1 + BitVec.ofNat 32 i = a + BitVec.ofNat 32 (i + 1) := fun i => by bv_omega
    simp only [State.plainAll, Bool.and_eq_true, beq_iff_eq, ih, e]
    constructor
    · rintro ⟨h0, h⟩ i hi
      cases i with
      | zero => simpa using h0
      | succ i => exact h i (by omega)
    · intro h
      exact ⟨by simpa using h 0 (by omega), fun i hi => h (i + 1) (by omega)⟩

/-- Where every byte is memory, none belongs to a device. -/
theorem State.deviceAny_of_plainAll {s : State} {a : Word} {n : Nat} (h : s.plainAll a n = true) :
    s.deviceAny a n = false := by
  induction n generalizing a with
  | zero => rfl
  | succ n ih =>
    simp only [State.plainAll, Bool.and_eq_true, beq_iff_eq] at h
    rw [State.deviceAny, ih h.2, h.1]
    rfl

/-- Where every byte is memory, no access reports an error. -/
theorem State.accessError_of_plainAll {s : State} {a : Word} {n : Nat} (h : s.plainAll a n = true) :
    s.accessError a n = none := by
  induction n generalizing a with
  | zero => rfl
  | succ n ih =>
    simp only [State.plainAll, Bool.and_eq_true, beq_iff_eq] at h
    rw [State.accessError, ih h.2]
    simp [State.byteError, h.1]

/-- A stack transfer is never misaligned (spec/47_special.md R375 (a)). -/
theorem State.maeApplies_stackAddr (s : State) (v : Word) : s.maeApplies (stackAddr v) 4 = false := by
  have h : (stackAddr v).extractLsb' 0 2 = 0#2 := by
    unfold stackAddr
    ext i hi
    have : i = 0 ∨ i = 1 := by omega
    rcases this with rfl | rfl <;> simp
  simp [State.maeApplies, misaligned, h]

/-! ### Requests and fetch errors -/

theorem Product.reported_eq_some {p : Product} {e : Option (BitVec 4)} {c : BitVec 4} :
    Product.reported p e = some c ↔ e = some c ∧ c ∈ p.syserrCodes := by
  simp [Product.reported, Option.filter_eq_some_iff]

/-- The system error request that is acknowledged is the one that stands. -/
theorem State.syserrRequest_eq_some {s : State} {c : BitVec 4} : s.syserrRequest = some c ↔ SyserrStands s c :=
  Product.reported_eq_some

/-- The EIINT requests that are acknowledged are those that stand. -/
theorem State.mem_eiintRequests {s : State} {r : EiintRequest} : r ∈ s.eiintRequests ↔ EiintStands s r := by
  simp [State.eiintRequests, EiintStands]

/-- HALT and SNOOZE end on the requests that stand. -/
theorem State.releaseRequest_iff (s : State) : s.releaseRequest = true ↔ RequestStands s := by
  have h : s.eiintRequests ≠ [] ↔ ∃ r ∈ s.req.eiint, EiintStands s r := by
    constructor
    · intro h
      obtain ⟨r, hr⟩ := List.exists_mem_of_ne_nil _ h
      exact ⟨r, (State.mem_eiintRequests.1 hr).1, State.mem_eiintRequests.1 hr⟩
    · rintro ⟨r, _, hr⟩
      exact List.ne_nil_of_mem (State.mem_eiintRequests.2 hr)
  simp only [State.releaseRequest, Bool.or_eq_true, Bool.not_eq_true', List.isEmpty_eq_false_iff, h,
    Option.isSome_iff_exists, State.syserrRequest_eq_some, RequestStands, or_assoc]

theorem State.byteFetchError_eq_some {s : State} {a : Word} {c : BitVec 4} :
    s.byteFetchError a = some c ↔ FetchErrorAt s a c :=
  Product.reported_eq_some

/-- The system error of a fetch is that of the first of its bytes that has one. -/
theorem State.fetchError_eq_some {s : State} {a : Word} {n : Nat} {c : BitVec 4} :
    s.fetchError a n = some c ↔ ∃ k < n, FetchErrorAt s (a + BitVec.ofNat 32 k) c ∧
      ∀ j < k, ∀ d, ¬ FetchErrorAt s (a + BitVec.ofNat 32 j) d := by
  induction n generalizing a with
  | zero => simp [State.fetchError]
  | succ n ih =>
    have e : ∀ i, a + 1 + BitVec.ofNat 32 i = a + BitVec.ofNat 32 (i + 1) := fun i => by bv_omega
    have z : a + BitVec.ofNat 32 0 = a := by simp
    simp only [State.fetchError]
    cases h : s.byteFetchError a with
    | some d =>
      have hd := State.byteFetchError_eq_some.1 h
      change some d = some c ↔ _
      constructor
      · rintro ⟨rfl⟩
        exact ⟨0, by omega, by rwa [z], fun j hj => by omega⟩
      · rintro ⟨k, _, hk, hj⟩
        cases k with
        | zero => rw [z] at hk; rw [← h]; exact State.byteFetchError_eq_some.2 hk
        | succ k => exact absurd hd (by have := hj 0 (by omega) d; rwa [z] at this)
    | none =>
      have hn : ∀ d, ¬ FetchErrorAt s a d := fun d hd => by simp [State.byteFetchError_eq_some.2 hd] at h
      change s.fetchError (a + 1) n = some c ↔ _
      rw [ih]
      simp only [e]
      constructor
      · rintro ⟨k, hk, hc, hj⟩
        refine ⟨k + 1, by omega, hc, fun j hj' d => ?_⟩
        cases j with
        | zero => rw [z]; exact hn d
        | succ j => exact hj j (by omega) d
      · rintro ⟨k, hk, hc, hj⟩
        cases k with
        | zero => rw [z] at hc; exact absurd hc (hn c)
        | succ k => exact ⟨k, by omega, hc, fun j hj' d => hj (j + 1) (by omega) d⟩

/-- A fetch reports nothing where no byte has an error. -/
theorem State.fetchError_eq_none {s : State} {a : Word} {n : Nat}
    (h : ∀ k < n, ∀ c, ¬ FetchErrorAt s (a + BitVec.ofNat 32 k) c) : s.fetchError a n = none := by
  cases hc : s.fetchError a n with
  | none => rfl
  | some c =>
    obtain ⟨k, hk, he, _⟩ := State.fetchError_eq_some.1 hc
    exact absurd he (h k hk c)

/-! ### The read-modify-write access -/

/-- Everything a read and write back can do: it takes an exception with no other effect, it stops at a device, or it
gives a value in a state that differs only in memory, the stale bytes, the free value counter and the reported error. -/
theorem State.memModify_cases (s : State) (t : AccessTag) (a : Word) (n : Nat) (f : Dword → Dword) :
    (∃ x, s.checkAccess t s.psw.um true true a n = some x ∧ s.memModify t a n f = .raised x) ∨
    s.memModify t a n f = .stopped .deviceAccess ∨
    ∃ v m st fc e, s.memModify t a n f =
      .done v { s with mem := m, stale := st, freeCtr := fc, req := { s.req with syserr := e } } := by
  unfold State.memModify
  cases hc : s.checkAccess t s.psw.um true true a n with
  | some x => exact .inl ⟨x, rfl, rfl⟩
  | none =>
    right
    rcases s.accessRead_cases a n with h | ⟨v, st, fc, e, h⟩
    · exact .inl (by simp [h, Access.bind])
    · rcases State.accessWrite_cases { s with stale := st, freeCtr := fc, req := { s.req with syserr := e } } a n (f v)
        with h' | ⟨m, st', e', h'⟩
      · exact .inl (by simp [h, h', Access.bind])
      · exact .inr ⟨v, m, st', fc, e', by simp [h, h', Access.bind]⟩

/-! ### Block transfers -/

/-- Everything a block of stores can do: an exception or a device ends it at a state that differs only in memory, the
stale bytes and the reported error but for the exception; or it ends with such a state and the address below it. -/
theorem State.storeBlock_cases (s : State) (t : AccessTag) (top : Word) (rs : List Reg) :
    (∃ m st e x, ∃ b, ({ s with mem := m, stale := st, req := { s.req with syserr := e } } : State).checkAccess t s.psw.um
        false true b 4 = some x ∧ s.storeBlock t top rs = .raised x) ∨
    s.storeBlock t top rs = .stopped .deviceAccess ∨
    ∃ m st e, s.storeBlock t top rs =
      .done (top - 4 * BitVec.ofNat 32 rs.length) { s with mem := m, stale := st, req := { s.req with syserr := e } } := by
  induction rs generalizing s top with
  | nil => exact .inr (.inr ⟨s.mem, s.stale, s.req.syserr, by simp [State.storeBlock]⟩)
  | cons r rest ih =>
    simp only [State.storeBlock]
    rcases s.memWrite_cases t (stackAddr (top - 4)) 4 ((s.reg r).setWidth 64) with ⟨x, hx, h⟩ | h | ⟨m, st, e, h⟩
    · exact .inl ⟨s.mem, s.stale, s.req.syserr, x, _, hx, by rw [h]; rfl⟩
    · exact .inr (.inl (by rw [h]; rfl))
    · rw [h]
      simp only [Access.bind]
      rcases ih { s with mem := m, stale := st, req := { s.req with syserr := e } } (top - 4) with
        ⟨m', st', e', x, b, hx, h'⟩ | h' | ⟨m', st', e', h'⟩
      · exact .inl ⟨m', st', e', x, b, hx, h'⟩
      · exact .inr (.inl h')
      · refine .inr (.inr ⟨m', st', e', ?_⟩)
        rw [h']
        congr 1
        simp only [List.length_cons]
        bv_omega

/-- Everything a block of loads can do: as a block of stores, with general registers in place of memory, and free values
used. -/
theorem State.loadBlock_cases (s : State) (t : AccessTag) (bottom : Word) (rs : List Reg) :
    (∃ g st fc e x, ∃ b, ({ s with gpr := g, stale := st, freeCtr := fc, req := { s.req with syserr := e } } :
        State).checkAccess t s.psw.um true false b 4 = some x ∧ s.loadBlock t bottom rs = .raised x) ∨
    s.loadBlock t bottom rs = .stopped .deviceAccess ∨
    ∃ g st fc e, s.loadBlock t bottom rs =
      .done (bottom + 4 * BitVec.ofNat 32 rs.length)
        { s with gpr := g, stale := st, freeCtr := fc, req := { s.req with syserr := e } } := by
  induction rs generalizing s bottom with
  | nil => exact .inr (.inr ⟨s.gpr, s.stale, s.freeCtr, s.req.syserr, by simp [State.loadBlock]⟩)
  | cons r rest ih =>
    simp only [State.loadBlock]
    rcases s.memRead_cases t s.psw.um (stackAddr bottom) 4 with ⟨x, hx, h⟩ | h | ⟨v, st, fc, e, h⟩
    · exact .inl ⟨s.gpr, s.stale, s.freeCtr, s.req.syserr, x, _, hx, by rw [h]; rfl⟩
    · exact .inr (.inl (by rw [h]; rfl))
    · rw [h]
      simp only [Access.bind]
      have hr : ∃ g, State.restoreReg { s with stale := st, freeCtr := fc, req := { s.req with syserr := e } } r v.low =
          { s with gpr := g, stale := st, freeCtr := fc, req := { s.req with syserr := e } } := by
        unfold State.restoreReg State.setReg
        split
        · exact ⟨s.gpr, rfl⟩
        · split
          · exact ⟨s.gpr, rfl⟩
          · exact ⟨_, rfl⟩
      obtain ⟨g, hg⟩ := hr
      rw [hg]
      rcases ih { s with gpr := g, stale := st, freeCtr := fc, req := { s.req with syserr := e } } (bottom + 4) with
        ⟨g', st', fc', e', x, b, hx, h'⟩ | h' | ⟨g', st', fc', e', h'⟩
      · exact .inl ⟨g', st', fc', e', x, b, hx, h'⟩
      · exact .inr (.inl h')
      · refine .inr (.inr ⟨g', st', fc', e', ?_⟩)
        rw [h']
        congr 1
        simp only [List.length_cons]
        bv_omega

/-! ### Fetching a halfword -/

/-- Everything the fetch of a halfword can do: it gives the new or the old bytes, and only counts free values as used. -/
theorem State.fetchHalf_cases (s : State) (a : Word) :
    ∃ fc, s.fetchHalf a = (s.busByte (a + 1) 1 ++ s.busByte a 0, { s with freeCtr := fc }) ∨
      s.staleHalf a = true ∧ s.fetchHalf a =
        (byteBefore (a + 1) s.stale (s.busByte (a + 1) 1) ++ byteBefore a s.stale (s.busByte a 0),
          { s with freeCtr := fc }) := by
  unfold State.fetchHalf
  cases s.staleHalf a <;> cases s.plainAll a 2
  · exact ⟨s.freeCtr + 2, .inl rfl⟩
  · exact ⟨s.freeCtr, .inl rfl⟩
  · cases h : Config.fetchOld (s.freeCtr + 2)
    · exact ⟨s.freeCtr + 2 + 1, .inl (by simp [State.useFree, h])⟩
    · exact ⟨s.freeCtr + 2 + 1, .inr ⟨rfl, by simp [State.useFree, h]⟩⟩
  · cases h : Config.fetchOld s.freeCtr
    · exact ⟨s.freeCtr + 1, .inl (by simp [State.useFree, h])⟩
    · exact ⟨s.freeCtr + 1, .inr ⟨rfl, by simp [State.useFree, h]⟩⟩

/-- A halfword in memory that was not stored since the last SYNCI sequence is fetched as it stands, and nothing
changes. -/
theorem State.fetchHalf_of_plain {s : State} {a : Word} (hp : s.plainAll a 2 = true)
    (hs : ∀ e ∈ s.stale, 2 ≤ (e.addr - a).toNat) : s.fetchHalf a = (s.halfAt a, s) := by
  have h : s.staleHalf a = false := by
    unfold State.staleHalf
    rw [List.any_eq_false]
    intro e he
    have := hs e he
    simp only [inRange, decide_eq_true_eq]
    omega
  have h0 : s.kindAt a = .plain := by simpa using (s.plainAll_iff a 2).1 hp 0 (by omega)
  have h1 : s.kindAt (a + 1) = .plain := by simpa using (s.plainAll_iff a 2).1 hp 1 (by omega)
  simp only [State.fetchHalf, h, hp, State.busByte, h0, h1, State.halfAt, if_true, beq_self_eq_true, Bool.false_eq_true,
    if_false]

/-! ### Fetching an instruction -/

/-- An instruction has one to four halfwords. -/
theorem instrLength_bounds (h1 h2 : Half) : 2 ≤ instrLength h1 h2 ∧ instrLength h1 h2 ≤ 8 := by
  simp only [instrLength]
  constructor <;> (repeat' split) <;> decide

/-- Everything the fetch of an instruction's halfwords can do: it gives two to eight bytes of them, and only counts free
values as used. -/
theorem State.fetchHalfs_cases (s : State) :
    ∃ fc, s.fetchHalfs.state = { s with freeCtr := fc } ∧ 2 ≤ s.fetchHalfs.length ∧ s.fetchHalfs.length ≤ 8 := by
  have half : ∀ (s : State) (a : Word), ∃ fc, (s.fetchHalf a).2 = { s with freeCtr := fc } := by
    intro s a
    obtain ⟨fc, h | ⟨_, h⟩⟩ := s.fetchHalf_cases a <;> exact ⟨fc, by rw [h]⟩
  obtain ⟨c1, h1⟩ := half s s.pc
  obtain ⟨c2, h2⟩ := half (s.fetchHalf s.pc).2 (s.pc + 2)
  obtain ⟨c3, h3⟩ := half ((s.fetchHalf s.pc).2.fetchHalf (s.pc + 2)).2 (s.pc + 4)
  obtain ⟨c4, h4⟩ := half (((s.fetchHalf s.pc).2.fetchHalf (s.pc + 2)).2.fetchHalf (s.pc + 4)).2 (s.pc + 6)
  have hn := instrLength_bounds (s.fetchHalf s.pc).1 ((s.fetchHalf s.pc).2.fetchHalf (s.pc + 2)).1
  simp only [State.fetchHalfs]
  split
  · exact ⟨c1, h1, Nat.le_refl 2, (by decide : 2 ≤ 8)⟩
  · split
    · exact ⟨c2, by rw [h2, h1], hn⟩
    · split
      · exact ⟨c3, by rw [h3, h2, h1], hn⟩
      · exact ⟨c4, by rw [h4, h3, h2, h1], hn⟩

end Sys2Proof.Machine
end

