-- ==== Sys2Proof/Laws/PerInstr.lean ====
section
/-!
SUPPORT. The family `EncodeLength`: the length that spec/30_encoding.md R161 reads from the first two halfwords of an
encoded instruction is the length of its row. One lemma per constructor of `Instr`.
-/
namespace Sys2Proof.Laws.EncodeLength

open Sys2Proof

set_option Elab.async false
set_option linter.unusedSimpArgs false

/-- The length rule reads the length of the instruction from its encoding. -/
def Statement (i : Instr) : Prop :=
  i.wellFormed = true → instrLength ((encode i).getD 0 0) ((encode i).getD 1 0) = i.length

theorem ldB16 (disp16 : BitVec 16) (reg1 : Reg) (reg2 : Reg) : Statement (.ldB16 disp16 reg1 reg2) := by
  intro _
  rw [instrLength_eq]
  refine lenNat_four ?_ ?_ <;>
    simp only [encode, List.getD_cons_zero, List.getD_cons_succ, List.getD_nil, toNat_append_eq, BitVec.toNat_ofNat,
      BitVec.extractLsb'_toNat, Nat.shiftRight_eq_div_pow] <;> omega

theorem ldB23 (disp23 : BitVec 23) (reg1 : Reg) (reg3 : Reg) : Statement (.ldB23 disp23 reg1 reg3) := by
  intro _
  rw [instrLength_eq]
  refine lenNat_long6 ?_ ?_ ?_ ?_ ?_ <;>
    simp only [encode, List.getD_cons_zero, List.getD_cons_succ, List.getD_nil, toNat_append_eq, BitVec.toNat_ofNat,
      BitVec.extractLsb'_toNat, Nat.shiftRight_eq_div_pow] <;> omega

theorem ldBu16 (disp16 : BitVec 16) (reg1 : Reg) (reg2 : Reg) : Statement (.ldBu16 disp16 reg1 reg2) := by
  intro h
  simp [Instr.wellFormed, ← BitVec.toNat_inj] at h
  rw [instrLength_eq]
  refine lenNat_four ?_ ?_ <;>
    simp only [encode, List.getD_cons_zero, List.getD_cons_succ, List.getD_nil, toNat_append_eq, BitVec.toNat_ofNat,
      BitVec.extractLsb'_toNat, Nat.shiftRight_eq_div_pow] <;> omega

theorem ldBu23 (disp23 : BitVec 23) (reg1 : Reg) (reg3 : Reg) : Statement (.ldBu23 disp23 reg1 reg3) := by
  intro _
  rw [instrLength_eq]
  refine lenNat_long6 ?_ ?_ ?_ ?_ ?_ <;>
    simp only [encode, List.getD_cons_zero, List.getD_cons_succ, List.getD_nil, toNat_append_eq, BitVec.toNat_ofNat,
      BitVec.extractLsb'_toNat, Nat.shiftRight_eq_div_pow] <;> omega

theorem ldDw (disp : BitVec 22) (reg1 : Reg) (reg3 : Reg) : Statement (.ldDw disp reg1 reg3) := by
  intro _
  rw [instrLength_eq]
  refine lenNat_long6 ?_ ?_ ?_ ?_ ?_ <;>
    simp only [encode, List.getD_cons_zero, List.getD_cons_succ, List.getD_nil, toNat_append_eq, BitVec.toNat_ofNat,
      BitVec.extractLsb'_toNat, Nat.shiftRight_eq_div_pow] <;> omega

theorem ldH16 (disp : BitVec 15) (reg1 : Reg) (reg2 : Reg) : Statement (.ldH16 disp reg1 reg2) := by
  intro _
  rw [instrLength_eq]
  refine lenNat_four ?_ ?_ <;>
    simp only [encode, List.getD_cons_zero, List.getD_cons_succ, List.getD_nil, toNat_append_eq, BitVec.toNat_ofNat,
      BitVec.extractLsb'_toNat, Nat.shiftRight_eq_div_pow] <;> omega

theorem ldH23 (disp : BitVec 22) (reg1 : Reg) (reg3 : Reg) : Statement (.ldH23 disp reg1 reg3) := by
  intro _
  rw [instrLength_eq]
  refine lenNat_long6 ?_ ?_ ?_ ?_ ?_ <;>
    simp only [encode, List.getD_cons_zero, List.getD_cons_succ, List.getD_nil, toNat_append_eq, BitVec.toNat_ofNat,
      BitVec.extractLsb'_toNat, Nat.shiftRight_eq_div_pow] <;> omega

theorem ldHu16 (disp : BitVec 15) (reg1 : Reg) (reg2 : Reg) : Statement (.ldHu16 disp reg1 reg2) := by
  intro h
  simp [Instr.wellFormed, ← BitVec.toNat_inj] at h
  rw [instrLength_eq]
  refine lenNat_four ?_ ?_ <;>
    simp only [encode, List.getD_cons_zero, List.getD_cons_succ, List.getD_nil, toNat_append_eq, BitVec.toNat_ofNat,
      BitVec.extractLsb'_toNat, Nat.shiftRight_eq_div_pow] <;> omega

theorem ldHu23 (disp : BitVec 22) (reg1 : Reg) (reg3 : Reg) : Statement (.ldHu23 disp reg1 reg3) := by
  intro _
  rw [instrLength_eq]
  refine lenNat_long6 ?_ ?_ ?_ ?_ ?_ <;>
    simp only [encode, List.getD_cons_zero, List.getD_cons_succ, List.getD_nil, toNat_append_eq, BitVec.toNat_ofNat,
      BitVec.extractLsb'_toNat, Nat.shiftRight_eq_div_pow] <;> omega

theorem ldW16 (disp : BitVec 15) (reg1 : Reg) (reg2 : Reg) : Statement (.ldW16 disp reg1 reg2) := by
  intro _
  rw [instrLength_eq]
  refine lenNat_four ?_ ?_ <;>
    simp only [encode, List.getD_cons_zero, List.getD_cons_succ, List.getD_nil, toNat_append_eq, BitVec.toNat_ofNat,
      BitVec.extractLsb'_toNat, Nat.shiftRight_eq_div_pow] <;> omega

theorem ldW23 (disp : BitVec 22) (reg1 : Reg) (reg3 : Reg) : Statement (.ldW23 disp reg1 reg3) := by
  intro _
  rw [instrLength_eq]
  refine lenNat_long6 ?_ ?_ ?_ ?_ ?_ <;>
    simp only [encode, List.getD_cons_zero, List.getD_cons_succ, List.getD_nil, toNat_append_eq, BitVec.toNat_ofNat,
      BitVec.extractLsb'_toNat, Nat.shiftRight_eq_div_pow] <;> omega

theorem sldB (disp : BitVec 7) (reg2 : Reg) : Statement (.sldB disp reg2) := by
  intro _
  rw [instrLength_eq]
  refine lenNat_two ?_ ?_ <;>
    simp only [encode, List.getD_cons_zero, List.getD_cons_succ, List.getD_nil, toNat_append_eq, BitVec.toNat_ofNat,
      BitVec.extractLsb'_toNat, Nat.shiftRight_eq_div_pow] <;> omega

theorem sldBu (disp : BitVec 4) (reg2 : Reg) : Statement (.sldBu disp reg2) := by
  intro h
  simp [Instr.wellFormed, ← BitVec.toNat_inj] at h
  rw [instrLength_eq]
  refine lenNat_two ?_ ?_ <;>
    simp only [encode, List.getD_cons_zero, List.getD_cons_succ, List.getD_nil, toNat_append_eq, BitVec.toNat_ofNat,
      BitVec.extractLsb'_toNat, Nat.shiftRight_eq_div_pow] <;> omega

theorem sldH (disp : BitVec 7) (reg2 : Reg) : Statement (.sldH disp reg2) := by
  intro _
  rw [instrLength_eq]
  refine lenNat_two ?_ ?_ <;>
    simp only [encode, List.getD_cons_zero, List.getD_cons_succ, List.getD_nil, toNat_append_eq, BitVec.toNat_ofNat,
      BitVec.extractLsb'_toNat, Nat.shiftRight_eq_div_pow] <;> omega

theorem sldHu (disp : BitVec 4) (reg2 : Reg) : Statement (.sldHu disp reg2) := by
  intro h
  simp [Instr.wellFormed, ← BitVec.toNat_inj] at h
  rw [instrLength_eq]
  refine lenNat_two ?_ ?_ <;>
    simp only [encode, List.getD_cons_zero, List.getD_cons_succ, List.getD_nil, toNat_append_eq, BitVec.toNat_ofNat,
      BitVec.extractLsb'_toNat, Nat.shiftRight_eq_div_pow] <;> omega

theorem sldW (disp : BitVec 6) (reg2 : Reg) : Statement (.sldW disp reg2) := by
  intro _
  rw [instrLength_eq]
  refine lenNat_two ?_ ?_ <;>
    simp only [encode, List.getD_cons_zero, List.getD_cons_succ, List.getD_nil, toNat_append_eq, BitVec.toNat_ofNat,
      BitVec.extractLsb'_toNat, Nat.shiftRight_eq_div_pow] <;> omega

theorem stB16 (disp16 : BitVec 16) (reg1 : Reg) (reg2 : Reg) : Statement (.stB16 disp16 reg1 reg2) := by
  intro _
  rw [instrLength_eq]
  refine lenNat_four ?_ ?_ <;>
    simp only [encode, List.getD_cons_zero, List.getD_cons_succ, List.getD_nil, toNat_append_eq, BitVec.toNat_ofNat,
      BitVec.extractLsb'_toNat, Nat.shiftRight_eq_div_pow] <;> omega

theorem stB23 (disp23 : BitVec 23) (reg1 : Reg) (reg3 : Reg) : Statement (.stB23 disp23 reg1 reg3) := by
  intro _
  rw [instrLength_eq]
  refine lenNat_long6 ?_ ?_ ?_ ?_ ?_ <;>
    simp only [encode, List.getD_cons_zero, List.getD_cons_succ, List.getD_nil, toNat_append_eq, BitVec.toNat_ofNat,
      BitVec.extractLsb'_toNat, Nat.shiftRight_eq_div_pow] <;> omega

theorem stDw (disp : BitVec 22) (reg1 : Reg) (reg3 : Reg) : Statement (.stDw disp reg1 reg3) := by
  intro _
  rw [instrLength_eq]
  refine lenNat_long6 ?_ ?_ ?_ ?_ ?_ <;>
    simp only [encode, List.getD_cons_zero, List.getD_cons_succ, List.getD_nil, toNat_append_eq, BitVec.toNat_ofNat,
      BitVec.extractLsb'_toNat, Nat.shiftRight_eq_div_pow] <;> omega

theorem stH16 (disp : BitVec 15) (reg1 : Reg) (reg2 : Reg) : Statement (.stH16 disp reg1 reg2) := by
  intro _
  rw [instrLength_eq]
  refine lenNat_four ?_ ?_ <;>
    simp only [encode, List.getD_cons_zero, List.getD_cons_succ, List.getD_nil, toNat_append_eq, BitVec.toNat_ofNat,
      BitVec.extractLsb'_toNat, Nat.shiftRight_eq_div_pow] <;> omega

theorem stH23 (disp : BitVec 22) (reg1 : Reg) (reg3 : Reg) : Statement (.stH23 disp reg1 reg3) := by
  intro _
  rw [instrLength_eq]
  refine lenNat_long6 ?_ ?_ ?_ ?_ ?_ <;>
    simp only [encode, List.getD_cons_zero, List.getD_cons_succ, List.getD_nil, toNat_append_eq, BitVec.toNat_ofNat,
      BitVec.extractLsb'_toNat, Nat.shiftRight_eq_div_pow] <;> omega

theorem stW16 (disp : BitVec 15) (reg1 : Reg) (reg2 : Reg) : Statement (.stW16 disp reg1 reg2) := by
  intro _
  rw [instrLength_eq]
  refine lenNat_four ?_ ?_ <;>
    simp only [encode, List.getD_cons_zero, List.getD_cons_succ, List.getD_nil, toNat_append_eq, BitVec.toNat_ofNat,
      BitVec.extractLsb'_toNat, Nat.shiftRight_eq_div_pow] <;> omega

theorem stW23 (disp : BitVec 22) (reg1 : Reg) (reg3 : Reg) : Statement (.stW23 disp reg1 reg3) := by
  intro _
  rw [instrLength_eq]
  refine lenNat_long6 ?_ ?_ ?_ ?_ ?_ <;>
    simp only [encode, List.getD_cons_zero, List.getD_cons_succ, List.getD_nil, toNat_append_eq, BitVec.toNat_ofNat,
      BitVec.extractLsb'_toNat, Nat.shiftRight_eq_div_pow] <;> omega

theorem sstB (disp : BitVec 7) (reg2 : Reg) : Statement (.sstB disp reg2) := by
  intro _
  rw [instrLength_eq]
  refine lenNat_two ?_ ?_ <;>
    simp only [encode, List.getD_cons_zero, List.getD_cons_succ, List.getD_nil, toNat_append_eq, BitVec.toNat_ofNat,
      BitVec.extractLsb'_toNat, Nat.shiftRight_eq_div_pow] <;> omega

theorem sstH (disp : BitVec 7) (reg2 : Reg) : Statement (.sstH disp reg2) := by
  intro _
  rw [instrLength_eq]
  refine lenNat_two ?_ ?_ <;>
    simp only [encode, List.getD_cons_zero, List.getD_cons_succ, List.getD_nil, toNat_append_eq, BitVec.toNat_ofNat,
      BitVec.extractLsb'_toNat, Nat.shiftRight_eq_div_pow] <;> omega

theorem sstW (disp : BitVec 6) (reg2 : Reg) : Statement (.sstW disp reg2) := by
  intro _
  rw [instrLength_eq]
  refine lenNat_two ?_ ?_ <;>
    simp only [encode, List.getD_cons_zero, List.getD_cons_succ, List.getD_nil, toNat_append_eq, BitVec.toNat_ofNat,
      BitVec.extractLsb'_toNat, Nat.shiftRight_eq_div_pow] <;> omega

theorem mul (reg1 : Reg) (reg2 : Reg) (reg3 : Reg) : Statement (.mul reg1 reg2 reg3) := by
  intro _
  rw [instrLength_eq]
  refine lenNat_four ?_ ?_ <;>
    simp only [encode, List.getD_cons_zero, List.getD_cons_succ, List.getD_nil, toNat_append_eq, BitVec.toNat_ofNat,
      BitVec.extractLsb'_toNat, Nat.shiftRight_eq_div_pow] <;> omega

theorem mulImm (imm9 : BitVec 9) (reg2 : Reg) (reg3 : Reg) : Statement (.mulImm imm9 reg2 reg3) := by
  intro _
  rw [instrLength_eq]
  refine lenNat_four ?_ ?_ <;>
    simp only [encode, List.getD_cons_zero, List.getD_cons_succ, List.getD_nil, toNat_append_eq, BitVec.toNat_ofNat,
      BitVec.extractLsb'_toNat, Nat.shiftRight_eq_div_pow] <;> omega

theorem mulh (reg1 : Reg) (reg2 : Reg) : Statement (.mulh reg1 reg2) := by
  intro h
  simp [Instr.wellFormed, ← BitVec.toNat_inj] at h
  rw [instrLength_eq]
  refine lenNat_two ?_ ?_ <;>
    simp only [encode, List.getD_cons_zero, List.getD_cons_succ, List.getD_nil, toNat_append_eq, BitVec.toNat_ofNat,
      BitVec.extractLsb'_toNat, Nat.shiftRight_eq_div_pow] <;> omega

theorem mulhImm (imm5 : BitVec 5) (reg2 : Reg) : Statement (.mulhImm imm5 reg2) := by
  intro h
  simp [Instr.wellFormed, ← BitVec.toNat_inj] at h
  rw [instrLength_eq]
  refine lenNat_two ?_ ?_ <;>
    simp only [encode, List.getD_cons_zero, List.getD_cons_succ, List.getD_nil, toNat_append_eq, BitVec.toNat_ofNat,
      BitVec.extractLsb'_toNat, Nat.shiftRight_eq_div_pow] <;> omega

theorem mulhi (imm16 : BitVec 16) (reg1 : Reg) (reg2 : Reg) : Statement (.mulhi imm16 reg1 reg2) := by
  intro h
  simp [Instr.wellFormed, ← BitVec.toNat_inj] at h
  rw [instrLength_eq]
  refine lenNat_four ?_ ?_ <;>
    simp only [encode, List.getD_cons_zero, List.getD_cons_succ, List.getD_nil, toNat_append_eq, BitVec.toNat_ofNat,
      BitVec.extractLsb'_toNat, Nat.shiftRight_eq_div_pow] <;> omega

theorem mulu (reg1 : Reg) (reg2 : Reg) (reg3 : Reg) : Statement (.mulu reg1 reg2 reg3) := by
  intro _
  rw [instrLength_eq]
  refine lenNat_four ?_ ?_ <;>
    simp only [encode, List.getD_cons_zero, List.getD_cons_succ, List.getD_nil, toNat_append_eq, BitVec.toNat_ofNat,
      BitVec.extractLsb'_toNat, Nat.shiftRight_eq_div_pow] <;> omega

theorem muluImm (imm9 : BitVec 9) (reg2 : Reg) (reg3 : Reg) : Statement (.muluImm imm9 reg2 reg3) := by
  intro _
  rw [instrLength_eq]
  refine lenNat_four ?_ ?_ <;>
    simp only [encode, List.getD_cons_zero, List.getD_cons_succ, List.getD_nil, toNat_append_eq, BitVec.toNat_ofNat,
      BitVec.extractLsb'_toNat, Nat.shiftRight_eq_div_pow] <;> omega

theorem mac (reg1 : Reg) (reg2 : Reg) (reg3 : BitVec 4) (reg4 : BitVec 4) : Statement (.mac reg1 reg2 reg3 reg4) := by
  intro _
  rw [instrLength_eq]
  refine lenNat_four ?_ ?_ <;>
    simp only [encode, List.getD_cons_zero, List.getD_cons_succ, List.getD_nil, toNat_append_eq, BitVec.toNat_ofNat,
      BitVec.extractLsb'_toNat, Nat.shiftRight_eq_div_pow] <;> omega

theorem macu (reg1 : Reg) (reg2 : Reg) (reg3 : BitVec 4) (reg4 : BitVec 4) : Statement (.macu reg1 reg2 reg3 reg4) := by
  intro _
  rw [instrLength_eq]
  refine lenNat_four ?_ ?_ <;>
    simp only [encode, List.getD_cons_zero, List.getD_cons_succ, List.getD_nil, toNat_append_eq, BitVec.toNat_ofNat,
      BitVec.extractLsb'_toNat, Nat.shiftRight_eq_div_pow] <;> omega

theorem addReg (reg1 : Reg) (reg2 : Reg) : Statement (.addReg reg1 reg2) := by
  intro _
  rw [instrLength_eq]
  refine lenNat_two ?_ ?_ <;>
    simp only [encode, List.getD_cons_zero, List.getD_cons_succ, List.getD_nil, toNat_append_eq, BitVec.toNat_ofNat,
      BitVec.extractLsb'_toNat, Nat.shiftRight_eq_div_pow] <;> omega

theorem addImm (imm5 : BitVec 5) (reg2 : Reg) : Statement (.addImm imm5 reg2) := by
  intro _
  rw [instrLength_eq]
  refine lenNat_two ?_ ?_ <;>
    simp only [encode, List.getD_cons_zero, List.getD_cons_succ, List.getD_nil, toNat_append_eq, BitVec.toNat_ofNat,
      BitVec.extractLsb'_toNat, Nat.shiftRight_eq_div_pow] <;> omega

theorem addi (imm16 : BitVec 16) (reg1 : Reg) (reg2 : Reg) : Statement (.addi imm16 reg1 reg2) := by
  intro _
  rw [instrLength_eq]
  refine lenNat_four ?_ ?_ <;>
    simp only [encode, List.getD_cons_zero, List.getD_cons_succ, List.getD_nil, toNat_append_eq, BitVec.toNat_ofNat,
      BitVec.extractLsb'_toNat, Nat.shiftRight_eq_div_pow] <;> omega

theorem cmpReg (reg1 : Reg) (reg2 : Reg) : Statement (.cmpReg reg1 reg2) := by
  intro _
  rw [instrLength_eq]
  refine lenNat_two ?_ ?_ <;>
    simp only [encode, List.getD_cons_zero, List.getD_cons_succ, List.getD_nil, toNat_append_eq, BitVec.toNat_ofNat,
      BitVec.extractLsb'_toNat, Nat.shiftRight_eq_div_pow] <;> omega

theorem cmpImm (imm5 : BitVec 5) (reg2 : Reg) : Statement (.cmpImm imm5 reg2) := by
  intro _
  rw [instrLength_eq]
  refine lenNat_two ?_ ?_ <;>
    simp only [encode, List.getD_cons_zero, List.getD_cons_succ, List.getD_nil, toNat_append_eq, BitVec.toNat_ofNat,
      BitVec.extractLsb'_toNat, Nat.shiftRight_eq_div_pow] <;> omega

theorem movReg (reg1 : Reg) (reg2 : Reg) : Statement (.movReg reg1 reg2) := by
  intro h
  simp [Instr.wellFormed, ← BitVec.toNat_inj] at h
  rw [instrLength_eq]
  refine lenNat_two ?_ ?_ <;>
    simp only [encode, List.getD_cons_zero, List.getD_cons_succ, List.getD_nil, toNat_append_eq, BitVec.toNat_ofNat,
      BitVec.extractLsb'_toNat, Nat.shiftRight_eq_div_pow] <;> omega

theorem movImm5 (imm5 : BitVec 5) (reg2 : Reg) : Statement (.movImm5 imm5 reg2) := by
  intro h
  simp [Instr.wellFormed, ← BitVec.toNat_inj] at h
  rw [instrLength_eq]
  refine lenNat_two ?_ ?_ <;>
    simp only [encode, List.getD_cons_zero, List.getD_cons_succ, List.getD_nil, toNat_append_eq, BitVec.toNat_ofNat,
      BitVec.extractLsb'_toNat, Nat.shiftRight_eq_div_pow] <;> omega

theorem movImm32 (imm32 : BitVec 32) (reg1 : Reg) : Statement (.movImm32 imm32 reg1) := by
  intro _
  rw [instrLength_eq]
  refine lenNat_mov32 ?_ ?_ <;>
    simp only [encode, List.getD_cons_zero, List.getD_cons_succ, List.getD_nil, toNat_append_eq, BitVec.toNat_ofNat,
      BitVec.extractLsb'_toNat, Nat.shiftRight_eq_div_pow] <;> omega

theorem movea (imm16 : BitVec 16) (reg1 : Reg) (reg2 : Reg) : Statement (.movea imm16 reg1 reg2) := by
  intro h
  simp [Instr.wellFormed, ← BitVec.toNat_inj] at h
  rw [instrLength_eq]
  refine lenNat_four ?_ ?_ <;>
    simp only [encode, List.getD_cons_zero, List.getD_cons_succ, List.getD_nil, toNat_append_eq, BitVec.toNat_ofNat,
      BitVec.extractLsb'_toNat, Nat.shiftRight_eq_div_pow] <;> omega

theorem movhi (imm16 : BitVec 16) (reg1 : Reg) (reg2 : Reg) : Statement (.movhi imm16 reg1 reg2) := by
  intro h
  simp [Instr.wellFormed, ← BitVec.toNat_inj] at h
  rw [instrLength_eq]
  refine lenNat_four ?_ ?_ <;>
    simp only [encode, List.getD_cons_zero, List.getD_cons_succ, List.getD_nil, toNat_append_eq, BitVec.toNat_ofNat,
      BitVec.extractLsb'_toNat, Nat.shiftRight_eq_div_pow] <;> omega

theorem sub (reg1 : Reg) (reg2 : Reg) : Statement (.sub reg1 reg2) := by
  intro _
  rw [instrLength_eq]
  refine lenNat_two ?_ ?_ <;>
    simp only [encode, List.getD_cons_zero, List.getD_cons_succ, List.getD_nil, toNat_append_eq, BitVec.toNat_ofNat,
      BitVec.extractLsb'_toNat, Nat.shiftRight_eq_div_pow] <;> omega

theorem subr (reg1 : Reg) (reg2 : Reg) : Statement (.subr reg1 reg2) := by
  intro _
  rw [instrLength_eq]
  refine lenNat_two ?_ ?_ <;>
    simp only [encode, List.getD_cons_zero, List.getD_cons_succ, List.getD_nil, toNat_append_eq, BitVec.toNat_ofNat,
      BitVec.extractLsb'_toNat, Nat.shiftRight_eq_div_pow] <;> omega

theorem adf (cond : Cond) (reg1 : Reg) (reg2 : Reg) (reg3 : Reg) : Statement (.adf cond reg1 reg2 reg3) := by
  intro h
  simp [Instr.wellFormed, ← BitVec.toNat_inj] at h
  rw [instrLength_eq]
  refine lenNat_four ?_ ?_ <;>
    simp only [encode, List.getD_cons_zero, List.getD_cons_succ, List.getD_nil, toNat_append_eq, BitVec.toNat_ofNat,
      BitVec.extractLsb'_toNat, Nat.shiftRight_eq_div_pow] <;> omega

theorem sbf (cond : Cond) (reg1 : Reg) (reg2 : Reg) (reg3 : Reg) : Statement (.sbf cond reg1 reg2 reg3) := by
  intro h
  simp [Instr.wellFormed, ← BitVec.toNat_inj] at h
  rw [instrLength_eq]
  refine lenNat_four ?_ ?_ <;>
    simp only [encode, List.getD_cons_zero, List.getD_cons_succ, List.getD_nil, toNat_append_eq, BitVec.toNat_ofNat,
      BitVec.extractLsb'_toNat, Nat.shiftRight_eq_div_pow] <;> omega

theorem satadd (reg1 : Reg) (reg2 : Reg) : Statement (.satadd reg1 reg2) := by
  intro h
  simp [Instr.wellFormed, ← BitVec.toNat_inj] at h
  rw [instrLength_eq]
  refine lenNat_two ?_ ?_ <;>
    simp only [encode, List.getD_cons_zero, List.getD_cons_succ, List.getD_nil, toNat_append_eq, BitVec.toNat_ofNat,
      BitVec.extractLsb'_toNat, Nat.shiftRight_eq_div_pow] <;> omega

theorem sataddImm (imm5 : BitVec 5) (reg2 : Reg) : Statement (.sataddImm imm5 reg2) := by
  intro h
  simp [Instr.wellFormed, ← BitVec.toNat_inj] at h
  rw [instrLength_eq]
  refine lenNat_two ?_ ?_ <;>
    simp only [encode, List.getD_cons_zero, List.getD_cons_succ, List.getD_nil, toNat_append_eq, BitVec.toNat_ofNat,
      BitVec.extractLsb'_toNat, Nat.shiftRight_eq_div_pow] <;> omega

theorem satadd3 (reg1 : Reg) (reg2 : Reg) (reg3 : Reg) : Statement (.satadd3 reg1 reg2 reg3) := by
  intro _
  rw [instrLength_eq]
  refine lenNat_four ?_ ?_ <;>
    simp only [encode, List.getD_cons_zero, List.getD_cons_succ, List.getD_nil, toNat_append_eq, BitVec.toNat_ofNat,
      BitVec.extractLsb'_toNat, Nat.shiftRight_eq_div_pow] <;> omega

theorem satsub (reg1 : Reg) (reg2 : Reg) : Statement (.satsub reg1 reg2) := by
  intro h
  simp [Instr.wellFormed, ← BitVec.toNat_inj] at h
  rw [instrLength_eq]
  refine lenNat_two ?_ ?_ <;>
    simp only [encode, List.getD_cons_zero, List.getD_cons_succ, List.getD_nil, toNat_append_eq, BitVec.toNat_ofNat,
      BitVec.extractLsb'_toNat, Nat.shiftRight_eq_div_pow] <;> omega

theorem satsub3 (reg1 : Reg) (reg2 : Reg) (reg3 : Reg) : Statement (.satsub3 reg1 reg2 reg3) := by
  intro _
  rw [instrLength_eq]
  refine lenNat_four ?_ ?_ <;>
    simp only [encode, List.getD_cons_zero, List.getD_cons_succ, List.getD_nil, toNat_append_eq, BitVec.toNat_ofNat,
      BitVec.extractLsb'_toNat, Nat.shiftRight_eq_div_pow] <;> omega

theorem satsubi (imm16 : BitVec 16) (reg1 : Reg) (reg2 : Reg) : Statement (.satsubi imm16 reg1 reg2) := by
  intro h
  simp [Instr.wellFormed, ← BitVec.toNat_inj] at h
  rw [instrLength_eq]
  refine lenNat_four ?_ ?_ <;>
    simp only [encode, List.getD_cons_zero, List.getD_cons_succ, List.getD_nil, toNat_append_eq, BitVec.toNat_ofNat,
      BitVec.extractLsb'_toNat, Nat.shiftRight_eq_div_pow] <;> omega

theorem satsubr (reg1 : Reg) (reg2 : Reg) : Statement (.satsubr reg1 reg2) := by
  intro h
  simp [Instr.wellFormed, ← BitVec.toNat_inj] at h
  rw [instrLength_eq]
  refine lenNat_two ?_ ?_ <;>
    simp only [encode, List.getD_cons_zero, List.getD_cons_succ, List.getD_nil, toNat_append_eq, BitVec.toNat_ofNat,
      BitVec.extractLsb'_toNat, Nat.shiftRight_eq_div_pow] <;> omega

theorem andReg (reg1 : Reg) (reg2 : Reg) : Statement (.andReg reg1 reg2) := by
  intro _
  rw [instrLength_eq]
  refine lenNat_two ?_ ?_ <;>
    simp only [encode, List.getD_cons_zero, List.getD_cons_succ, List.getD_nil, toNat_append_eq, BitVec.toNat_ofNat,
      BitVec.extractLsb'_toNat, Nat.shiftRight_eq_div_pow] <;> omega

theorem andi (imm16 : BitVec 16) (reg1 : Reg) (reg2 : Reg) : Statement (.andi imm16 reg1 reg2) := by
  intro _
  rw [instrLength_eq]
  refine lenNat_four ?_ ?_ <;>
    simp only [encode, List.getD_cons_zero, List.getD_cons_succ, List.getD_nil, toNat_append_eq, BitVec.toNat_ofNat,
      BitVec.extractLsb'_toNat, Nat.shiftRight_eq_div_pow] <;> omega

theorem notReg (reg1 : Reg) (reg2 : Reg) : Statement (.notReg reg1 reg2) := by
  intro _
  rw [instrLength_eq]
  refine lenNat_two ?_ ?_ <;>
    simp only [encode, List.getD_cons_zero, List.getD_cons_succ, List.getD_nil, toNat_append_eq, BitVec.toNat_ofNat,
      BitVec.extractLsb'_toNat, Nat.shiftRight_eq_div_pow] <;> omega

theorem orReg (reg1 : Reg) (reg2 : Reg) : Statement (.orReg reg1 reg2) := by
  intro _
  rw [instrLength_eq]
  refine lenNat_two ?_ ?_ <;>
    simp only [encode, List.getD_cons_zero, List.getD_cons_succ, List.getD_nil, toNat_append_eq, BitVec.toNat_ofNat,
      BitVec.extractLsb'_toNat, Nat.shiftRight_eq_div_pow] <;> omega

theorem ori (imm16 : BitVec 16) (reg1 : Reg) (reg2 : Reg) : Statement (.ori imm16 reg1 reg2) := by
  intro _
  rw [instrLength_eq]
  refine lenNat_four ?_ ?_ <;>
    simp only [encode, List.getD_cons_zero, List.getD_cons_succ, List.getD_nil, toNat_append_eq, BitVec.toNat_ofNat,
      BitVec.extractLsb'_toNat, Nat.shiftRight_eq_div_pow] <;> omega

theorem tst (reg1 : Reg) (reg2 : Reg) : Statement (.tst reg1 reg2) := by
  intro _
  rw [instrLength_eq]
  refine lenNat_two ?_ ?_ <;>
    simp only [encode, List.getD_cons_zero, List.getD_cons_succ, List.getD_nil, toNat_append_eq, BitVec.toNat_ofNat,
      BitVec.extractLsb'_toNat, Nat.shiftRight_eq_div_pow] <;> omega

theorem xorReg (reg1 : Reg) (reg2 : Reg) : Statement (.xorReg reg1 reg2) := by
  intro _
  rw [instrLength_eq]
  refine lenNat_two ?_ ?_ <;>
    simp only [encode, List.getD_cons_zero, List.getD_cons_succ, List.getD_nil, toNat_append_eq, BitVec.toNat_ofNat,
      BitVec.extractLsb'_toNat, Nat.shiftRight_eq_div_pow] <;> omega

theorem xori (imm16 : BitVec 16) (reg1 : Reg) (reg2 : Reg) : Statement (.xori imm16 reg1 reg2) := by
  intro _
  rw [instrLength_eq]
  refine lenNat_four ?_ ?_ <;>
    simp only [encode, List.getD_cons_zero, List.getD_cons_succ, List.getD_nil, toNat_append_eq, BitVec.toNat_ofNat,
      BitVec.extractLsb'_toNat, Nat.shiftRight_eq_div_pow] <;> omega

theorem binsHh (reg1 : Reg) (msb : BitVec 4) (lsb : BitVec 4) (reg2 : Reg) : Statement (.binsHh reg1 msb lsb reg2) := by
  intro _
  rw [instrLength_eq]
  refine lenNat_four ?_ ?_ <;>
    simp only [encode, List.getD_cons_zero, List.getD_cons_succ, List.getD_nil, toNat_append_eq, BitVec.toNat_ofNat,
      BitVec.extractLsb'_toNat, Nat.shiftRight_eq_div_pow] <;> omega

theorem binsHl (reg1 : Reg) (msb : BitVec 4) (lsb : BitVec 4) (reg2 : Reg) : Statement (.binsHl reg1 msb lsb reg2) := by
  intro _
  rw [instrLength_eq]
  refine lenNat_four ?_ ?_ <;>
    simp only [encode, List.getD_cons_zero, List.getD_cons_succ, List.getD_nil, toNat_append_eq, BitVec.toNat_ofNat,
      BitVec.extractLsb'_toNat, Nat.shiftRight_eq_div_pow] <;> omega

theorem binsLl (reg1 : Reg) (msb : BitVec 4) (lsb : BitVec 4) (reg2 : Reg) : Statement (.binsLl reg1 msb lsb reg2) := by
  intro _
  rw [instrLength_eq]
  refine lenNat_four ?_ ?_ <;>
    simp only [encode, List.getD_cons_zero, List.getD_cons_succ, List.getD_nil, toNat_append_eq, BitVec.toNat_ofNat,
      BitVec.extractLsb'_toNat, Nat.shiftRight_eq_div_pow] <;> omega

theorem bsh (reg2 : Reg) (reg3 : Reg) : Statement (.bsh reg2 reg3) := by
  intro _
  rw [instrLength_eq]
  refine lenNat_four ?_ ?_ <;>
    simp only [encode, List.getD_cons_zero, List.getD_cons_succ, List.getD_nil, toNat_append_eq, BitVec.toNat_ofNat,
      BitVec.extractLsb'_toNat, Nat.shiftRight_eq_div_pow] <;> omega

theorem bsw (reg2 : Reg) (reg3 : Reg) : Statement (.bsw reg2 reg3) := by
  intro _
  rw [instrLength_eq]
  refine lenNat_four ?_ ?_ <;>
    simp only [encode, List.getD_cons_zero, List.getD_cons_succ, List.getD_nil, toNat_append_eq, BitVec.toNat_ofNat,
      BitVec.extractLsb'_toNat, Nat.shiftRight_eq_div_pow] <;> omega

theorem cmov (cond : Cond) (reg1 : Reg) (reg2 : Reg) (reg3 : Reg) : Statement (.cmov cond reg1 reg2 reg3) := by
  intro _
  rw [instrLength_eq]
  refine lenNat_four ?_ ?_ <;>
    simp only [encode, List.getD_cons_zero, List.getD_cons_succ, List.getD_nil, toNat_append_eq, BitVec.toNat_ofNat,
      BitVec.extractLsb'_toNat, Nat.shiftRight_eq_div_pow] <;> omega

theorem cmovImm (cond : Cond) (imm5 : BitVec 5) (reg2 : Reg) (reg3 : Reg) : Statement (.cmovImm cond imm5 reg2 reg3) := by
  intro _
  rw [instrLength_eq]
  refine lenNat_four ?_ ?_ <;>
    simp only [encode, List.getD_cons_zero, List.getD_cons_succ, List.getD_nil, toNat_append_eq, BitVec.toNat_ofNat,
      BitVec.extractLsb'_toNat, Nat.shiftRight_eq_div_pow] <;> omega

theorem hsh (reg2 : Reg) (reg3 : Reg) : Statement (.hsh reg2 reg3) := by
  intro _
  rw [instrLength_eq]
  refine lenNat_four ?_ ?_ <;>
    simp only [encode, List.getD_cons_zero, List.getD_cons_succ, List.getD_nil, toNat_append_eq, BitVec.toNat_ofNat,
      BitVec.extractLsb'_toNat, Nat.shiftRight_eq_div_pow] <;> omega

theorem hsw (reg2 : Reg) (reg3 : Reg) : Statement (.hsw reg2 reg3) := by
  intro _
  rw [instrLength_eq]
  refine lenNat_four ?_ ?_ <;>
    simp only [encode, List.getD_cons_zero, List.getD_cons_succ, List.getD_nil, toNat_append_eq, BitVec.toNat_ofNat,
      BitVec.extractLsb'_toNat, Nat.shiftRight_eq_div_pow] <;> omega

theorem rotlImm (imm5 : BitVec 5) (reg2 : Reg) (reg3 : Reg) : Statement (.rotlImm imm5 reg2 reg3) := by
  intro _
  rw [instrLength_eq]
  refine lenNat_four ?_ ?_ <;>
    simp only [encode, List.getD_cons_zero, List.getD_cons_succ, List.getD_nil, toNat_append_eq, BitVec.toNat_ofNat,
      BitVec.extractLsb'_toNat, Nat.shiftRight_eq_div_pow] <;> omega

theorem rotl (reg1 : Reg) (reg2 : Reg) (reg3 : Reg) : Statement (.rotl reg1 reg2 reg3) := by
  intro _
  rw [instrLength_eq]
  refine lenNat_four ?_ ?_ <;>
    simp only [encode, List.getD_cons_zero, List.getD_cons_succ, List.getD_nil, toNat_append_eq, BitVec.toNat_ofNat,
      BitVec.extractLsb'_toNat, Nat.shiftRight_eq_div_pow] <;> omega

theorem sar (reg1 : Reg) (reg2 : Reg) : Statement (.sar reg1 reg2) := by
  intro _
  rw [instrLength_eq]
  refine lenNat_four ?_ ?_ <;>
    simp only [encode, List.getD_cons_zero, List.getD_cons_succ, List.getD_nil, toNat_append_eq, BitVec.toNat_ofNat,
      BitVec.extractLsb'_toNat, Nat.shiftRight_eq_div_pow] <;> omega

theorem sarImm (imm5 : BitVec 5) (reg2 : Reg) : Statement (.sarImm imm5 reg2) := by
  intro _
  rw [instrLength_eq]
  refine lenNat_two ?_ ?_ <;>
    simp only [encode, List.getD_cons_zero, List.getD_cons_succ, List.getD_nil, toNat_append_eq, BitVec.toNat_ofNat,
      BitVec.extractLsb'_toNat, Nat.shiftRight_eq_div_pow] <;> omega

theorem sar3 (reg1 : Reg) (reg2 : Reg) (reg3 : Reg) : Statement (.sar3 reg1 reg2 reg3) := by
  intro _
  rw [instrLength_eq]
  refine lenNat_four ?_ ?_ <;>
    simp only [encode, List.getD_cons_zero, List.getD_cons_succ, List.getD_nil, toNat_append_eq, BitVec.toNat_ofNat,
      BitVec.extractLsb'_toNat, Nat.shiftRight_eq_div_pow] <;> omega

theorem sasf (cond : Cond) (reg2 : Reg) : Statement (.sasf cond reg2) := by
  intro _
  rw [instrLength_eq]
  refine lenNat_four ?_ ?_ <;>
    simp only [encode, List.getD_cons_zero, List.getD_cons_succ, List.getD_nil, toNat_append_eq, BitVec.toNat_ofNat,
      BitVec.extractLsb'_toNat, Nat.shiftRight_eq_div_pow] <;> omega

theorem setf (cond : Cond) (reg2 : Reg) : Statement (.setf cond reg2) := by
  intro _
  rw [instrLength_eq]
  refine lenNat_four ?_ ?_ <;>
    simp only [encode, List.getD_cons_zero, List.getD_cons_succ, List.getD_nil, toNat_append_eq, BitVec.toNat_ofNat,
      BitVec.extractLsb'_toNat, Nat.shiftRight_eq_div_pow] <;> omega

theorem shl (reg1 : Reg) (reg2 : Reg) : Statement (.shl reg1 reg2) := by
  intro _
  rw [instrLength_eq]
  refine lenNat_four ?_ ?_ <;>
    simp only [encode, List.getD_cons_zero, List.getD_cons_succ, List.getD_nil, toNat_append_eq, BitVec.toNat_ofNat,
      BitVec.extractLsb'_toNat, Nat.shiftRight_eq_div_pow] <;> omega

theorem shlImm (imm5 : BitVec 5) (reg2 : Reg) : Statement (.shlImm imm5 reg2) := by
  intro _
  rw [instrLength_eq]
  refine lenNat_two ?_ ?_ <;>
    simp only [encode, List.getD_cons_zero, List.getD_cons_succ, List.getD_nil, toNat_append_eq, BitVec.toNat_ofNat,
      BitVec.extractLsb'_toNat, Nat.shiftRight_eq_div_pow] <;> omega

theorem shl3 (reg1 : Reg) (reg2 : Reg) (reg3 : Reg) : Statement (.shl3 reg1 reg2 reg3) := by
  intro _
  rw [instrLength_eq]
  refine lenNat_four ?_ ?_ <;>
    simp only [encode, List.getD_cons_zero, List.getD_cons_succ, List.getD_nil, toNat_append_eq, BitVec.toNat_ofNat,
      BitVec.extractLsb'_toNat, Nat.shiftRight_eq_div_pow] <;> omega

theorem shr (reg1 : Reg) (reg2 : Reg) : Statement (.shr reg1 reg2) := by
  intro _
  rw [instrLength_eq]
  refine lenNat_four ?_ ?_ <;>
    simp only [encode, List.getD_cons_zero, List.getD_cons_succ, List.getD_nil, toNat_append_eq, BitVec.toNat_ofNat,
      BitVec.extractLsb'_toNat, Nat.shiftRight_eq_div_pow] <;> omega

theorem shrImm (imm5 : BitVec 5) (reg2 : Reg) : Statement (.shrImm imm5 reg2) := by
  intro _
  rw [instrLength_eq]
  refine lenNat_two ?_ ?_ <;>
    simp only [encode, List.getD_cons_zero, List.getD_cons_succ, List.getD_nil, toNat_append_eq, BitVec.toNat_ofNat,
      BitVec.extractLsb'_toNat, Nat.shiftRight_eq_div_pow] <;> omega

theorem shr3 (reg1 : Reg) (reg2 : Reg) (reg3 : Reg) : Statement (.shr3 reg1 reg2 reg3) := by
  intro _
  rw [instrLength_eq]
  refine lenNat_four ?_ ?_ <;>
    simp only [encode, List.getD_cons_zero, List.getD_cons_succ, List.getD_nil, toNat_append_eq, BitVec.toNat_ofNat,
      BitVec.extractLsb'_toNat, Nat.shiftRight_eq_div_pow] <;> omega

theorem sxb (reg1 : Reg) : Statement (.sxb reg1) := by
  intro _
  rw [instrLength_eq]
  refine lenNat_two ?_ ?_ <;>
    simp only [encode, List.getD_cons_zero, List.getD_cons_succ, List.getD_nil, toNat_append_eq, BitVec.toNat_ofNat,
      BitVec.extractLsb'_toNat, Nat.shiftRight_eq_div_pow] <;> omega

theorem sxh (reg1 : Reg) : Statement (.sxh reg1) := by
  intro _
  rw [instrLength_eq]
  refine lenNat_two ?_ ?_ <;>
    simp only [encode, List.getD_cons_zero, List.getD_cons_succ, List.getD_nil, toNat_append_eq, BitVec.toNat_ofNat,
      BitVec.extractLsb'_toNat, Nat.shiftRight_eq_div_pow] <;> omega

theorem zxb (reg1 : Reg) : Statement (.zxb reg1) := by
  intro _
  rw [instrLength_eq]
  refine lenNat_two ?_ ?_ <;>
    simp only [encode, List.getD_cons_zero, List.getD_cons_succ, List.getD_nil, toNat_append_eq, BitVec.toNat_ofNat,
      BitVec.extractLsb'_toNat, Nat.shiftRight_eq_div_pow] <;> omega

theorem zxh (reg1 : Reg) : Statement (.zxh reg1) := by
  intro _
  rw [instrLength_eq]
  refine lenNat_two ?_ ?_ <;>
    simp only [encode, List.getD_cons_zero, List.getD_cons_succ, List.getD_nil, toNat_append_eq, BitVec.toNat_ofNat,
      BitVec.extractLsb'_toNat, Nat.shiftRight_eq_div_pow] <;> omega

theorem sch0l (reg2 : Reg) (reg3 : Reg) : Statement (.sch0l reg2 reg3) := by
  intro _
  rw [instrLength_eq]
  refine lenNat_four ?_ ?_ <;>
    simp only [encode, List.getD_cons_zero, List.getD_cons_succ, List.getD_nil, toNat_append_eq, BitVec.toNat_ofNat,
      BitVec.extractLsb'_toNat, Nat.shiftRight_eq_div_pow] <;> omega

theorem sch0r (reg2 : Reg) (reg3 : Reg) : Statement (.sch0r reg2 reg3) := by
  intro _
  rw [instrLength_eq]
  refine lenNat_four ?_ ?_ <;>
    simp only [encode, List.getD_cons_zero, List.getD_cons_succ, List.getD_nil, toNat_append_eq, BitVec.toNat_ofNat,
      BitVec.extractLsb'_toNat, Nat.shiftRight_eq_div_pow] <;> omega

theorem sch1l (reg2 : Reg) (reg3 : Reg) : Statement (.sch1l reg2 reg3) := by
  intro _
  rw [instrLength_eq]
  refine lenNat_four ?_ ?_ <;>
    simp only [encode, List.getD_cons_zero, List.getD_cons_succ, List.getD_nil, toNat_append_eq, BitVec.toNat_ofNat,
      BitVec.extractLsb'_toNat, Nat.shiftRight_eq_div_pow] <;> omega

theorem sch1r (reg2 : Reg) (reg3 : Reg) : Statement (.sch1r reg2 reg3) := by
  intro _
  rw [instrLength_eq]
  refine lenNat_four ?_ ?_ <;>
    simp only [encode, List.getD_cons_zero, List.getD_cons_succ, List.getD_nil, toNat_append_eq, BitVec.toNat_ofNat,
      BitVec.extractLsb'_toNat, Nat.shiftRight_eq_div_pow] <;> omega

theorem div (reg1 : Reg) (reg2 : Reg) (reg3 : Reg) : Statement (.div reg1 reg2 reg3) := by
  intro _
  rw [instrLength_eq]
  refine lenNat_four ?_ ?_ <;>
    simp only [encode, List.getD_cons_zero, List.getD_cons_succ, List.getD_nil, toNat_append_eq, BitVec.toNat_ofNat,
      BitVec.extractLsb'_toNat, Nat.shiftRight_eq_div_pow] <;> omega

theorem divh2 (reg1 : Reg) (reg2 : Reg) : Statement (.divh2 reg1 reg2) := by
  intro h
  simp [Instr.wellFormed, ← BitVec.toNat_inj] at h
  rw [instrLength_eq]
  refine lenNat_two ?_ ?_ <;>
    simp only [encode, List.getD_cons_zero, List.getD_cons_succ, List.getD_nil, toNat_append_eq, BitVec.toNat_ofNat,
      BitVec.extractLsb'_toNat, Nat.shiftRight_eq_div_pow] <;> omega

theorem divh3 (reg1 : Reg) (reg2 : Reg) (reg3 : Reg) : Statement (.divh3 reg1 reg2 reg3) := by
  intro _
  rw [instrLength_eq]
  refine lenNat_four ?_ ?_ <;>
    simp only [encode, List.getD_cons_zero, List.getD_cons_succ, List.getD_nil, toNat_append_eq, BitVec.toNat_ofNat,
      BitVec.extractLsb'_toNat, Nat.shiftRight_eq_div_pow] <;> omega

theorem divhu (reg1 : Reg) (reg2 : Reg) (reg3 : Reg) : Statement (.divhu reg1 reg2 reg3) := by
  intro _
  rw [instrLength_eq]
  refine lenNat_four ?_ ?_ <;>
    simp only [encode, List.getD_cons_zero, List.getD_cons_succ, List.getD_nil, toNat_append_eq, BitVec.toNat_ofNat,
      BitVec.extractLsb'_toNat, Nat.shiftRight_eq_div_pow] <;> omega

theorem divu (reg1 : Reg) (reg2 : Reg) (reg3 : Reg) : Statement (.divu reg1 reg2 reg3) := by
  intro _
  rw [instrLength_eq]
  refine lenNat_four ?_ ?_ <;>
    simp only [encode, List.getD_cons_zero, List.getD_cons_succ, List.getD_nil, toNat_append_eq, BitVec.toNat_ofNat,
      BitVec.extractLsb'_toNat, Nat.shiftRight_eq_div_pow] <;> omega

theorem divq (reg1 : Reg) (reg2 : Reg) (reg3 : Reg) : Statement (.divq reg1 reg2 reg3) := by
  intro _
  rw [instrLength_eq]
  refine lenNat_four ?_ ?_ <;>
    simp only [encode, List.getD_cons_zero, List.getD_cons_succ, List.getD_nil, toNat_append_eq, BitVec.toNat_ofNat,
      BitVec.extractLsb'_toNat, Nat.shiftRight_eq_div_pow] <;> omega

theorem divqu (reg1 : Reg) (reg2 : Reg) (reg3 : Reg) : Statement (.divqu reg1 reg2 reg3) := by
  intro _
  rw [instrLength_eq]
  refine lenNat_four ?_ ?_ <;>
    simp only [encode, List.getD_cons_zero, List.getD_cons_succ, List.getD_nil, toNat_append_eq, BitVec.toNat_ofNat,
      BitVec.extractLsb'_toNat, Nat.shiftRight_eq_div_pow] <;> omega

theorem bcond9 (cond : Cond) (disp : BitVec 8) : Statement (.bcond9 cond disp) := by
  intro _
  rw [instrLength_eq]
  refine lenNat_two ?_ ?_ <;>
    simp only [encode, List.getD_cons_zero, List.getD_cons_succ, List.getD_nil, toNat_append_eq, BitVec.toNat_ofNat,
      BitVec.extractLsb'_toNat, Nat.shiftRight_eq_div_pow] <;> omega

theorem bcond17 (cond : Cond) (disp : BitVec 16) : Statement (.bcond17 cond disp) := by
  intro h
  simp [Instr.wellFormed, ← BitVec.toNat_inj] at h
  rw [instrLength_eq]
  refine lenNat_four ?_ ?_ <;>
    simp only [encode, List.getD_cons_zero, List.getD_cons_succ, List.getD_nil, toNat_append_eq, BitVec.toNat_ofNat,
      BitVec.extractLsb'_toNat, Nat.shiftRight_eq_div_pow] <;> omega

theorem jarl22 (disp : BitVec 21) (reg2 : Reg) : Statement (.jarl22 disp reg2) := by
  intro h
  simp [Instr.wellFormed, ← BitVec.toNat_inj] at h
  rw [instrLength_eq]
  refine lenNat_four ?_ ?_ <;>
    simp only [encode, List.getD_cons_zero, List.getD_cons_succ, List.getD_nil, toNat_append_eq, BitVec.toNat_ofNat,
      BitVec.extractLsb'_toNat, Nat.shiftRight_eq_div_pow] <;> omega

theorem jarl32 (disp : BitVec 31) (reg1 : Reg) : Statement (.jarl32 disp reg1) := by
  intro h
  simp [Instr.wellFormed, ← BitVec.toNat_inj] at h
  rw [instrLength_eq]
  refine lenNat_jarl32 ?_ ?_ <;>
    simp only [encode, List.getD_cons_zero, List.getD_cons_succ, List.getD_nil, toNat_append_eq, BitVec.toNat_ofNat,
      BitVec.extractLsb'_toNat, Nat.shiftRight_eq_div_pow] <;> omega

theorem jarlReg (reg1 : Reg) (reg3 : Reg) : Statement (.jarlReg reg1 reg3) := by
  intro h
  simp [Instr.wellFormed, ← BitVec.toNat_inj] at h
  rw [instrLength_eq]
  refine lenNat_four ?_ ?_ <;>
    simp only [encode, List.getD_cons_zero, List.getD_cons_succ, List.getD_nil, toNat_append_eq, BitVec.toNat_ofNat,
      BitVec.extractLsb'_toNat, Nat.shiftRight_eq_div_pow] <;> omega

theorem jmpReg (reg1 : Reg) : Statement (.jmpReg reg1) := by
  intro _
  rw [instrLength_eq]
  refine lenNat_two ?_ ?_ <;>
    simp only [encode, List.getD_cons_zero, List.getD_cons_succ, List.getD_nil, toNat_append_eq, BitVec.toNat_ofNat,
      BitVec.extractLsb'_toNat, Nat.shiftRight_eq_div_pow] <;> omega

theorem jmp32 (disp : BitVec 31) (reg1 : Reg) : Statement (.jmp32 disp reg1) := by
  intro _
  rw [instrLength_eq]
  refine lenNat_jmp32 ?_ ?_ ?_ <;>
    simp only [encode, List.getD_cons_zero, List.getD_cons_succ, List.getD_nil, toNat_append_eq, BitVec.toNat_ofNat,
      BitVec.extractLsb'_toNat, Nat.shiftRight_eq_div_pow] <;> omega

theorem jr22 (disp : BitVec 21) : Statement (.jr22 disp) := by
  intro _
  rw [instrLength_eq]
  refine lenNat_four ?_ ?_ <;>
    simp only [encode, List.getD_cons_zero, List.getD_cons_succ, List.getD_nil, toNat_append_eq, BitVec.toNat_ofNat,
      BitVec.extractLsb'_toNat, Nat.shiftRight_eq_div_pow] <;> omega

theorem jr32 (disp : BitVec 31) : Statement (.jr32 disp) := by
  intro _
  rw [instrLength_eq]
  refine lenNat_jarl32 ?_ ?_ <;>
    simp only [encode, List.getD_cons_zero, List.getD_cons_succ, List.getD_nil, toNat_append_eq, BitVec.toNat_ofNat,
      BitVec.extractLsb'_toNat, Nat.shiftRight_eq_div_pow] <;> omega

theorem loop (reg1 : Reg) (disp : BitVec 15) : Statement (.loop reg1 disp) := by
  intro h
  simp [Instr.wellFormed, ← BitVec.toNat_inj] at h
  rw [instrLength_eq]
  refine lenNat_four ?_ ?_ <;>
    simp only [encode, List.getD_cons_zero, List.getD_cons_succ, List.getD_nil, toNat_append_eq, BitVec.toNat_ofNat,
      BitVec.extractLsb'_toNat, Nat.shiftRight_eq_div_pow] <;> omega

theorem clr1 (bit3 : BitVec 3) (disp16 : BitVec 16) (reg1 : Reg) : Statement (.clr1 bit3 disp16 reg1) := by
  intro _
  rw [instrLength_eq]
  refine lenNat_four ?_ ?_ <;>
    simp only [encode, List.getD_cons_zero, List.getD_cons_succ, List.getD_nil, toNat_append_eq, BitVec.toNat_ofNat,
      BitVec.extractLsb'_toNat, Nat.shiftRight_eq_div_pow] <;> omega

theorem clr1Reg (reg1 : Reg) (reg2 : Reg) : Statement (.clr1Reg reg1 reg2) := by
  intro _
  rw [instrLength_eq]
  refine lenNat_four ?_ ?_ <;>
    simp only [encode, List.getD_cons_zero, List.getD_cons_succ, List.getD_nil, toNat_append_eq, BitVec.toNat_ofNat,
      BitVec.extractLsb'_toNat, Nat.shiftRight_eq_div_pow] <;> omega

theorem not1 (bit3 : BitVec 3) (disp16 : BitVec 16) (reg1 : Reg) : Statement (.not1 bit3 disp16 reg1) := by
  intro _
  rw [instrLength_eq]
  refine lenNat_four ?_ ?_ <;>
    simp only [encode, List.getD_cons_zero, List.getD_cons_succ, List.getD_nil, toNat_append_eq, BitVec.toNat_ofNat,
      BitVec.extractLsb'_toNat, Nat.shiftRight_eq_div_pow] <;> omega

theorem not1Reg (reg1 : Reg) (reg2 : Reg) : Statement (.not1Reg reg1 reg2) := by
  intro _
  rw [instrLength_eq]
  refine lenNat_four ?_ ?_ <;>
    simp only [encode, List.getD_cons_zero, List.getD_cons_succ, List.getD_nil, toNat_append_eq, BitVec.toNat_ofNat,
      BitVec.extractLsb'_toNat, Nat.shiftRight_eq_div_pow] <;> omega

theorem set1 (bit3 : BitVec 3) (disp16 : BitVec 16) (reg1 : Reg) : Statement (.set1 bit3 disp16 reg1) := by
  intro _
  rw [instrLength_eq]
  refine lenNat_four ?_ ?_ <;>
    simp only [encode, List.getD_cons_zero, List.getD_cons_succ, List.getD_nil, toNat_append_eq, BitVec.toNat_ofNat,
      BitVec.extractLsb'_toNat, Nat.shiftRight_eq_div_pow] <;> omega

theorem set1Reg (reg1 : Reg) (reg2 : Reg) : Statement (.set1Reg reg1 reg2) := by
  intro _
  rw [instrLength_eq]
  refine lenNat_four ?_ ?_ <;>
    simp only [encode, List.getD_cons_zero, List.getD_cons_succ, List.getD_nil, toNat_append_eq, BitVec.toNat_ofNat,
      BitVec.extractLsb'_toNat, Nat.shiftRight_eq_div_pow] <;> omega

theorem tst1 (bit3 : BitVec 3) (disp16 : BitVec 16) (reg1 : Reg) : Statement (.tst1 bit3 disp16 reg1) := by
  intro _
  rw [instrLength_eq]
  refine lenNat_four ?_ ?_ <;>
    simp only [encode, List.getD_cons_zero, List.getD_cons_succ, List.getD_nil, toNat_append_eq, BitVec.toNat_ofNat,
      BitVec.extractLsb'_toNat, Nat.shiftRight_eq_div_pow] <;> omega

theorem tst1Reg (reg1 : Reg) (reg2 : Reg) : Statement (.tst1Reg reg1 reg2) := by
  intro _
  rw [instrLength_eq]
  refine lenNat_four ?_ ?_ <;>
    simp only [encode, List.getD_cons_zero, List.getD_cons_succ, List.getD_nil, toNat_append_eq, BitVec.toNat_ofNat,
      BitVec.extractLsb'_toNat, Nat.shiftRight_eq_div_pow] <;> omega

theorem callt (imm6 : BitVec 6) : Statement (.callt imm6) := by
  intro _
  rw [instrLength_eq]
  refine lenNat_two ?_ ?_ <;>
    simp only [encode, List.getD_cons_zero, List.getD_cons_succ, List.getD_nil, toNat_append_eq, BitVec.toNat_ofNat,
      BitVec.extractLsb'_toNat, Nat.shiftRight_eq_div_pow] <;> omega

theorem caxi (reg1 : Reg) (reg2 : Reg) (reg3 : Reg) : Statement (.caxi reg1 reg2 reg3) := by
  intro _
  rw [instrLength_eq]
  refine lenNat_four ?_ ?_ <;>
    simp only [encode, List.getD_cons_zero, List.getD_cons_succ, List.getD_nil, toNat_append_eq, BitVec.toNat_ofNat,
      BitVec.extractLsb'_toNat, Nat.shiftRight_eq_div_pow] <;> omega

theorem cll : Statement (.cll) := by
  intro _
  rw [instrLength_eq]
  decide

theorem ctret : Statement (.ctret) := by
  intro _
  rw [instrLength_eq]
  decide

theorem di : Statement (.di) := by
  intro _
  rw [instrLength_eq]
  decide

theorem dispose (imm5 : BitVec 5) (list12 : BitVec 12) : Statement (.dispose imm5 list12) := by
  intro _
  rw [instrLength_eq]
  refine lenNat_four ?_ ?_ <;>
    simp only [encode, List.getD_cons_zero, List.getD_cons_succ, List.getD_nil, toNat_append_eq, BitVec.toNat_ofNat,
      BitVec.extractLsb'_toNat, Nat.shiftRight_eq_div_pow] <;> omega

theorem disposeJmp (imm5 : BitVec 5) (list12 : BitVec 12) (reg1 : Reg) : Statement (.disposeJmp imm5 list12 reg1) := by
  intro h
  simp [Instr.wellFormed, ← BitVec.toNat_inj] at h
  rw [instrLength_eq]
  refine lenNat_four ?_ ?_ <;>
    simp only [encode, List.getD_cons_zero, List.getD_cons_succ, List.getD_nil, toNat_append_eq, BitVec.toNat_ofNat,
      BitVec.extractLsb'_toNat, Nat.shiftRight_eq_div_pow] <;> omega

theorem ei : Statement (.ei) := by
  intro _
  rw [instrLength_eq]
  decide

theorem eiret : Statement (.eiret) := by
  intro _
  rw [instrLength_eq]
  decide

theorem feret : Statement (.feret) := by
  intro _
  rw [instrLength_eq]
  decide

theorem fetrap (vector4 : BitVec 4) : Statement (.fetrap vector4) := by
  intro h
  simp [Instr.wellFormed, ← BitVec.toNat_inj] at h
  rw [instrLength_eq]
  refine lenNat_two ?_ ?_ <;>
    simp only [encode, List.getD_cons_zero, List.getD_cons_succ, List.getD_nil, toNat_append_eq, BitVec.toNat_ofNat,
      BitVec.extractLsb'_toNat, Nat.shiftRight_eq_div_pow] <;> omega

theorem halt : Statement (.halt) := by
  intro _
  rw [instrLength_eq]
  decide

theorem ldlW (reg1 : Reg) (reg3 : Reg) : Statement (.ldlW reg1 reg3) := by
  intro _
  rw [instrLength_eq]
  refine lenNat_four ?_ ?_ <;>
    simp only [encode, List.getD_cons_zero, List.getD_cons_succ, List.getD_nil, toNat_append_eq, BitVec.toNat_ofNat,
      BitVec.extractLsb'_toNat, Nat.shiftRight_eq_div_pow] <;> omega

theorem ldsr (reg2 : Reg) (regID : BitVec 5) (selID : BitVec 5) : Statement (.ldsr reg2 regID selID) := by
  intro _
  rw [instrLength_eq]
  refine lenNat_four ?_ ?_ <;>
    simp only [encode, List.getD_cons_zero, List.getD_cons_succ, List.getD_nil, toNat_append_eq, BitVec.toNat_ofNat,
      BitVec.extractLsb'_toNat, Nat.shiftRight_eq_div_pow] <;> omega

theorem nop : Statement (.nop) := by
  intro _
  rw [instrLength_eq]
  decide

theorem popsp (rh : Reg) (rt : Reg) : Statement (.popsp rh rt) := by
  intro _
  rw [instrLength_eq]
  refine lenNat_four ?_ ?_ <;>
    simp only [encode, List.getD_cons_zero, List.getD_cons_succ, List.getD_nil, toNat_append_eq, BitVec.toNat_ofNat,
      BitVec.extractLsb'_toNat, Nat.shiftRight_eq_div_pow] <;> omega

theorem prepare (imm5 : BitVec 5) (list12 : BitVec 12) : Statement (.prepare imm5 list12) := by
  intro _
  rw [instrLength_eq]
  refine lenNat_prepare4 ?_ ?_ ?_ <;>
    simp only [encode, List.getD_cons_zero, List.getD_cons_succ, List.getD_nil, toNat_append_eq, BitVec.toNat_ofNat,
      BitVec.extractLsb'_toNat, Nat.shiftRight_eq_div_pow] <;> omega

theorem prepareSp (imm5 : BitVec 5) (list12 : BitVec 12) : Statement (.prepareSp imm5 list12) := by
  intro _
  rw [instrLength_eq]
  refine lenNat_prepare4 ?_ ?_ ?_ <;>
    simp only [encode, List.getD_cons_zero, List.getD_cons_succ, List.getD_nil, toNat_append_eq, BitVec.toNat_ofNat,
      BitVec.extractLsb'_toNat, Nat.shiftRight_eq_div_pow] <;> omega

theorem prepareImmLo (imm5 : BitVec 5) (list12 : BitVec 12) (imm16 : BitVec 16) : Statement (.prepareImmLo imm5 list12 imm16) := by
  intro _
  rw [instrLength_eq]
  refine lenNat_long6 ?_ ?_ ?_ ?_ ?_ <;>
    simp only [encode, List.getD_cons_zero, List.getD_cons_succ, List.getD_nil, toNat_append_eq, BitVec.toNat_ofNat,
      BitVec.extractLsb'_toNat, Nat.shiftRight_eq_div_pow] <;> omega

theorem prepareImmHi (imm5 : BitVec 5) (list12 : BitVec 12) (imm16 : BitVec 16) : Statement (.prepareImmHi imm5 list12 imm16) := by
  intro _
  rw [instrLength_eq]
  refine lenNat_long6 ?_ ?_ ?_ ?_ ?_ <;>
    simp only [encode, List.getD_cons_zero, List.getD_cons_succ, List.getD_nil, toNat_append_eq, BitVec.toNat_ofNat,
      BitVec.extractLsb'_toNat, Nat.shiftRight_eq_div_pow] <;> omega

theorem prepareImm32 (imm5 : BitVec 5) (list12 : BitVec 12) (imm32 : BitVec 32) : Statement (.prepareImm32 imm5 list12 imm32) := by
  intro _
  rw [instrLength_eq]
  refine lenNat_prepare8 ?_ ?_ ?_ <;>
    simp only [encode, List.getD_cons_zero, List.getD_cons_succ, List.getD_nil, toNat_append_eq, BitVec.toNat_ofNat,
      BitVec.extractLsb'_toNat, Nat.shiftRight_eq_div_pow] <;> omega

theorem pushsp (rh : Reg) (rt : Reg) : Statement (.pushsp rh rt) := by
  intro _
  rw [instrLength_eq]
  refine lenNat_four ?_ ?_ <;>
    simp only [encode, List.getD_cons_zero, List.getD_cons_succ, List.getD_nil, toNat_append_eq, BitVec.toNat_ofNat,
      BitVec.extractLsb'_toNat, Nat.shiftRight_eq_div_pow] <;> omega

theorem rie : Statement (.rie) := by
  intro _
  rw [instrLength_eq]
  decide

theorem rieImm (imm5 : BitVec 5) (imm4 : BitVec 4) : Statement (.rieImm imm5 imm4) := by
  intro _
  rw [instrLength_eq]
  refine lenNat_four ?_ ?_ <;>
    simp only [encode, List.getD_cons_zero, List.getD_cons_succ, List.getD_nil, toNat_append_eq, BitVec.toNat_ofNat,
      BitVec.extractLsb'_toNat, Nat.shiftRight_eq_div_pow] <;> omega

theorem snooze : Statement (.snooze) := by
  intro _
  rw [instrLength_eq]
  decide

theorem stcW (reg1 : Reg) (reg3 : Reg) : Statement (.stcW reg1 reg3) := by
  intro _
  rw [instrLength_eq]
  refine lenNat_four ?_ ?_ <;>
    simp only [encode, List.getD_cons_zero, List.getD_cons_succ, List.getD_nil, toNat_append_eq, BitVec.toNat_ofNat,
      BitVec.extractLsb'_toNat, Nat.shiftRight_eq_div_pow] <;> omega

theorem stsr (regID : BitVec 5) (reg2 : Reg) (selID : BitVec 5) : Statement (.stsr regID reg2 selID) := by
  intro _
  rw [instrLength_eq]
  refine lenNat_four ?_ ?_ <;>
    simp only [encode, List.getD_cons_zero, List.getD_cons_succ, List.getD_nil, toNat_append_eq, BitVec.toNat_ofNat,
      BitVec.extractLsb'_toNat, Nat.shiftRight_eq_div_pow] <;> omega

theorem switch (reg1 : Reg) : Statement (.switch reg1) := by
  intro h
  simp [Instr.wellFormed, ← BitVec.toNat_inj] at h
  rw [instrLength_eq]
  refine lenNat_two ?_ ?_ <;>
    simp only [encode, List.getD_cons_zero, List.getD_cons_succ, List.getD_nil, toNat_append_eq, BitVec.toNat_ofNat,
      BitVec.extractLsb'_toNat, Nat.shiftRight_eq_div_pow] <;> omega

theorem synce : Statement (.synce) := by
  intro _
  rw [instrLength_eq]
  decide

theorem synci : Statement (.synci) := by
  intro _
  rw [instrLength_eq]
  decide

theorem syncm : Statement (.syncm) := by
  intro _
  rw [instrLength_eq]
  decide

theorem syncp : Statement (.syncp) := by
  intro _
  rw [instrLength_eq]
  decide

theorem syscall (vector8 : BitVec 8) : Statement (.syscall vector8) := by
  intro _
  rw [instrLength_eq]
  refine lenNat_four ?_ ?_ <;>
    simp only [encode, List.getD_cons_zero, List.getD_cons_succ, List.getD_nil, toNat_append_eq, BitVec.toNat_ofNat,
      BitVec.extractLsb'_toNat, Nat.shiftRight_eq_div_pow] <;> omega

theorem trap (vector5 : BitVec 5) : Statement (.trap vector5) := by
  intro _
  rw [instrLength_eq]
  refine lenNat_four ?_ ?_ <;>
    simp only [encode, List.getD_cons_zero, List.getD_cons_succ, List.getD_nil, toNat_append_eq, BitVec.toNat_ofNat,
      BitVec.extractLsb'_toNat, Nat.shiftRight_eq_div_pow] <;> omega

theorem cache (cacheop : BitVec 7) (reg1 : Reg) : Statement (.cache cacheop reg1) := by
  intro h
  simp [Instr.wellFormed, ← BitVec.toNat_inj] at h
  rw [instrLength_eq]
  refine lenNat_four ?_ ?_ <;>
    simp only [encode, List.getD_cons_zero, List.getD_cons_succ, List.getD_nil, toNat_append_eq, BitVec.toNat_ofNat,
      BitVec.extractLsb'_toNat, Nat.shiftRight_eq_div_pow] <;> omega

theorem pref (prefop : BitVec 5) (reg1 : Reg) : Statement (.pref prefop reg1) := by
  intro _
  rw [instrLength_eq]
  refine lenNat_four ?_ ?_ <;>
    simp only [encode, List.getD_cons_zero, List.getD_cons_succ, List.getD_nil, toNat_append_eq, BitVec.toNat_ofNat,
      BitVec.extractLsb'_toNat, Nat.shiftRight_eq_div_pow] <;> omega

end Sys2Proof.Laws.EncodeLength
end

