-- ==== Sys2Proof/Tests/Slice0.lean ====
section
/-!
SUPPORT. Tests: decoding and one step of every instruction, the checks of WellFormed, and for every obligation with
hypotheses a concrete state and operands that meet them. The expected values are those of spec/95_test_vectors.md (a
test's docstring names the vector) or worked out by hand from the rule.
-/
namespace Sys2Proof.Tests

open Sys2Proof Sys2Proof.Machine

set_option Elab.async false

/-! ### Small states -/

/-- The product of spec/95_test_vectors.md, Part 2. -/
def product : Product := { Product.default with peid := 1, lastArea := 3 }

/-- The state after reset with the program counter at 100H. -/
def base : State := { State.resetOf product [] with pc := 0x100 }

def gr (r : Reg) (v : Word) (s : State) : State := s.setReg r v

def pc (v : Word) (s : State) : State := { s with pc := v }

def psw (v : Word) (s : State) : State := { s with psw := s.psw.ofWord v }

def sr (r : SysReg) (v : Word) (s : State) : State := s.writeSys r v

def ispr (v : Word) (s : State) : State := { s with sys := { s.sys with ispr := v } }

def mem (a : Word) (n : Nat) (v : Dword) (s : State) : State := { s.writeLE a v n with stale := [] }

def rbase (v : Word) (s : State) : State :=
  { s with product := { s.product with rbase := v.extractLsb' 9 23, rint := v.getLsbD 0 } }

def tables (chs : List (BitVec 9)) (s : State) : State := { s with product := { s.product with tableChannels := chs } }

def eiint (rs : List EiintRequest) (s : State) : State := { s with req := { s.req with eiint := rs } }

def req (r : Requests) (s : State) : State := { s with req := r }

def run (r : RunState) (s : State) : State := { s with run := r }

def area (n : BitVec 4) (la ua at' : Word) (s : State) : State := s.setArea n ⟨la, ua, at'⟩

/-- MPU-U of spec/95_test_vectors.md, Part 3. -/
def mpuU (s : State) : State := s |> sr .mpm 1 |> area 0 0x1000 0x1FFC 0xC4 |> area 1 0x2000 0x20FC 0xC1

/-- MPU-S of spec/95_test_vectors.md, Part 3. -/
def mpuS (s : State) : State := s |> sr .mpm 3 |> area 0 0x1000 0x1FFC 0xE4 |> area 1 0x2000 0x20FC 0xC9

/-- The halfwords `hs` at the program counter. -/
def placed (hs : List Half) (s : State) : State := s.placeHalfs s.pc hs

/-- The halfwords decode to `i`, with nothing left over. -/
def reads (hs : List Half) (i : Instr) : Bool :=
  match decode (bytesOf hs) with
  | .ok (j, []) => j == i
  | _ => false

/-- The next step runs the halfwords and answers a next state of which `p` holds. -/
def goes (hs : List Half) (s : State) (p : State → Bool) : Bool :=
  match step (placed hs s) with
  | .next t => p t
  | _ => false

/-- The decoder refuses the halfwords with `e`. -/
def rejects (hs : List Half) (e : DecodeError) : Bool :=
  match decode (bytesOf hs) with
  | .ok _ => false
  | .error d => d == e

/-! ### Decoding: one word of every instruction, from the vectors and the encodings of the spec -/

/-- L1: LD.B -4[r10], r11 -/
theorem test_decode_ldB16 : reads [0x5F0A, 0xFFFC] (.ldB16 0xFFFC 10 11) = true := by decide +kernel

/-- L3: LD.B 0x12345[r1], r2 -/
theorem test_decode_ldB23 : reads [0x0781, 0x1455, 0x0246] (.ldB23 0x12345 1 2) = true := by decide +kernel

/-- L2: LD.BU -4[r10], r11 -/
theorem test_decode_ldBu16 : reads [0x5F8A, 0xFFFD] (.ldBu16 0xFFFC 10 11) = true := by decide +kernel

/-- LD.BU 0x12345[r1], r2 -/
theorem test_decode_ldBu23 : reads [0x07A1, 0x1455, 0x0246] (.ldBu23 0x12345 1 2) = true := by decide +kernel

/-- L11: LD.DW 8[r2], r4 -/
theorem test_decode_ldDw : reads [0x07A2, 0x2089, 0x0000] (.ldDw 4 2 4) = true := by decide +kernel

/-- L5: LD.H 2[r1], r2 -/
theorem test_decode_ldH16 : reads [0x1721, 0x0002] (.ldH16 1 1 2) = true := by decide +kernel

/-- LD.H 0x12346[r1], r2 -/
theorem test_decode_ldH23 : reads [0x0781, 0x1467, 0x0246] (.ldH23 0x91A3 1 2) = true := by decide +kernel

/-- L6: LD.HU 2[r1], r2 -/
theorem test_decode_ldHu16 : reads [0x17E1, 0x0003] (.ldHu16 1 1 2) = true := by decide +kernel

/-- LD.HU 0x12346[r1], r2 -/
theorem test_decode_ldHu23 : reads [0x07A1, 0x1467, 0x0246] (.ldHu23 0x91A3 1 2) = true := by decide +kernel

/-- L7: LD.W 8[r3], r4 -/
theorem test_decode_ldW16 : reads [0x2723, 0x0009] (.ldW16 4 3 4) = true := by decide +kernel

/-- LD.W 0x100[r1], r2 -/
theorem test_decode_ldW23 : reads [0x0781, 0x1009, 0x0002] (.ldW23 0x80 1 2) = true := by decide +kernel

/-- L19: SLD.B 3[ep], r5 -/
theorem test_decode_sldB : reads [0x2B03] (.sldB 3 5) = true := by decide +kernel

/-- L20: SLD.BU 3[ep], r5 -/
theorem test_decode_sldBu : reads [0x2863] (.sldBu 3 5) = true := by decide +kernel

/-- L21: SLD.H 4[ep], r5 -/
theorem test_decode_sldH : reads [0x2C02] (.sldH 2 5) = true := by decide +kernel

/-- L22: SLD.HU 4[ep], r5 -/
theorem test_decode_sldHu : reads [0x2872] (.sldHu 2 5) = true := by decide +kernel

/-- L23: SLD.W 8[ep], r5 -/
theorem test_decode_sldW : reads [0x2D04] (.sldW 2 5) = true := by decide +kernel

/-- L25: ST.B r7, 1[r8] -/
theorem test_decode_stB16 : reads [0x3F48, 0x0001] (.stB16 1 8 7) = true := by decide +kernel

/-- ST.B r2, 0x12345[r1] -/
theorem test_decode_stB23 : reads [0x0781, 0x145D, 0x0246] (.stB23 0x12345 1 2) = true := by decide +kernel

/-- L29: ST.DW r6, -8[r3] -/
theorem test_decode_stDw : reads [0x07A3, 0x378F, 0xFFFF] (.stDw 0x3FFFFC 3 6) = true := by decide +kernel

/-- L26: ST.H r9, -2[r10] -/
theorem test_decode_stH16 : reads [0x4F6A, 0xFFFE] (.stH16 0x7FFF 10 9) = true := by decide +kernel

/-- ST.H r2, 0x12346[r1] -/
theorem test_decode_stH23 : reads [0x07A1, 0x146D, 0x0246] (.stH23 0x91A3 1 2) = true := by decide +kernel

/-- L27: ST.W r11, 4[r12] -/
theorem test_decode_stW16 : reads [0x5F6C, 0x0005] (.stW16 2 12 11) = true := by decide +kernel

/-- L30: ST.W r2, 0x10000[r1] (disp23) -/
theorem test_decode_stW23 : reads [0x0781, 0x100F, 0x0200] (.stW23 0x8000 1 2) = true := by decide +kernel

/-- L33: SST.B r5, 3[ep] -/
theorem test_decode_sstB : reads [0x2B83] (.sstB 3 5) = true := by decide +kernel

/-- L34: SST.H r5, 4[ep] -/
theorem test_decode_sstH : reads [0x2C82] (.sstH 2 5) = true := by decide +kernel

/-- L35: SST.W r5, 8[ep] -/
theorem test_decode_sstW : reads [0x2D05] (.sstW 2 5) = true := by decide +kernel

/-- A32: MUL r1, r2, r3 -/
theorem test_decode_mul : reads [0x17E1, 0x1A20] (.mul 1 2 3) = true := by decide +kernel

/-- A36: MUL -3, r2, r3 -/
theorem test_decode_mulImm : reads [0x17FD, 0x1A7C] (.mulImm 0x1FD 2 3) = true := by decide +kernel

/-- A40: MULH r1, r2 -/
theorem test_decode_mulh : reads [0x10E1] (.mulh 1 2) = true := by decide +kernel

/-- A42: MULH -2, r2 -/
theorem test_decode_mulhImm : reads [0x12FE] (.mulhImm 30 2) = true := by decide +kernel

/-- A43: MULHI 0x100, r1, r2 -/
theorem test_decode_mulhi : reads [0x16E1, 0x0100] (.mulhi 0x100 1 2) = true := by decide +kernel

/-- A38: MULU r1, r2, r3 -/
theorem test_decode_mulu : reads [0x17E1, 0x1A22] (.mulu 1 2 3) = true := by decide +kernel

/-- A39: MULU 511, r2, r3 -/
theorem test_decode_muluImm : reads [0x17FF, 0x1A7E] (.muluImm 0x1FF 2 3) = true := by decide +kernel

/-- A45: MAC r1, r2, r4, r6 -/
theorem test_decode_mac : reads [0x17E1, 0x23C6] (.mac 1 2 2 3) = true := by decide +kernel

/-- A48: MACU r1, r2, r4, r6 -/
theorem test_decode_macu : reads [0x17E1, 0x23E6] (.macu 1 2 2 3) = true := by decide +kernel

/-- A1: ADD r1, r2 -/
theorem test_decode_addReg : reads [0x11C1] (.addReg 1 2) = true := by decide +kernel

/-- A5: ADD -1, r2 -/
theorem test_decode_addImm : reads [0x125F] (.addImm 31 2) = true := by decide +kernel

/-- A7: ADDI 0x1234, r1, r2 -/
theorem test_decode_addi : reads [0x1601, 0x1234] (.addi 0x1234 1 2) = true := by decide +kernel

/-- A9: CMP r1, r2 -/
theorem test_decode_cmpReg : reads [0x11E1] (.cmpReg 1 2) = true := by decide +kernel

/-- A12: CMP -16, r2 -/
theorem test_decode_cmpImm : reads [0x1270] (.cmpImm 16 2) = true := by decide +kernel

/-- A13: MOV r1, r2 -/
theorem test_decode_movReg : reads [0x1001] (.movReg 1 2) = true := by decide +kernel

/-- A14: MOV -16, r2 -/
theorem test_decode_movImm5 : reads [0x1210] (.movImm5 16 2) = true := by decide +kernel

/-- A15: MOV 0x12345678, r1 -/
theorem test_decode_movImm32 : reads [0x0621, 0x5678, 0x1234] (.movImm32 0x12345678 1) = true := by decide +kernel

/-- A16: MOVEA -1, r1, r2 -/
theorem test_decode_movea : reads [0x1621, 0xFFFF] (.movea 0xFFFF 1 2) = true := by decide +kernel

/-- A18: MOVHI 0x1234, r0, r2 -/
theorem test_decode_movhi : reads [0x1640, 0x1234] (.movhi 0x1234 0 2) = true := by decide +kernel

/-- A20: SUB r1, r2 -/
theorem test_decode_sub : reads [0x11A1] (.sub 1 2) = true := by decide +kernel

/-- A24: SUBR r1, r2 -/
theorem test_decode_subr : reads [0x1181] (.subr 1 2) = true := by decide +kernel

/-- A26: ADF C, r1, r2, r3 (condition true) -/
theorem test_decode_adf : reads [0x17E1, 0x1BA2] (.adf .c 1 2 3) = true := by decide +kernel

/-- A29: SBF C, r1, r2, r3 (condition true) -/
theorem test_decode_sbf : reads [0x17E1, 0x1B82] (.sbf .c 1 2 3) = true := by decide +kernel

/-- S1: SATADD r1, r2 -/
theorem test_decode_satadd : reads [0x10C1] (.satadd 1 2) = true := by decide +kernel

/-- S5: SATADD -16, r2 -/
theorem test_decode_sataddImm : reads [0x1230] (.sataddImm 16 2) = true := by decide +kernel

/-- S6: SATADD r1, r2, r3 -/
theorem test_decode_satadd3 : reads [0x17E1, 0x1BBA] (.satadd3 1 2 3) = true := by decide +kernel

/-- S7: SATSUB r1, r2 -/
theorem test_decode_satsub : reads [0x10A1] (.satsub 1 2) = true := by decide +kernel

/-- S9: SATSUB r1, r2, r3 -/
theorem test_decode_satsub3 : reads [0x17E1, 0x1B9A] (.satsub3 1 2 3) = true := by decide +kernel

/-- S10: SATSUBI 1, r1, r2 -/
theorem test_decode_satsubi : reads [0x1661, 0x0001] (.satsubi 1 1 2) = true := by decide +kernel

/-- S12: SATSUBR r1, r2 -/
theorem test_decode_satsubr : reads [0x1081] (.satsubr 1 2) = true := by decide +kernel

/-- S14: AND r1, r2 -/
theorem test_decode_andReg : reads [0x1141] (.andReg 1 2) = true := by decide +kernel

/-- S16: ANDI 0x00FF, r1, r2 -/
theorem test_decode_andi : reads [0x16C1, 0x00FF] (.andi 0xFF 1 2) = true := by decide +kernel

/-- S18: NOT r1, r2 -/
theorem test_decode_notReg : reads [0x1021] (.notReg 1 2) = true := by decide +kernel

/-- S19: OR r1, r2 -/
theorem test_decode_orReg : reads [0x1101] (.orReg 1 2) = true := by decide +kernel

/-- S20: ORI 0x8000, r1, r2 -/
theorem test_decode_ori : reads [0x1681, 0x8000] (.ori 0x8000 1 2) = true := by decide +kernel

/-- S21: TST r1, r2 -/
theorem test_decode_tst : reads [0x1161] (.tst 1 2) = true := by decide +kernel

/-- S23: XOR r1, r2 -/
theorem test_decode_xorReg : reads [0x1121] (.xorReg 1 2) = true := by decide +kernel

/-- S25: XORI 0xFFFF, r1, r2 -/
theorem test_decode_xori : reads [0x16A1, 0xFFFF] (.xori 0xFFFF 1 2) = true := by decide +kernel

/-- DM3: BINS r1, 16, 16, r2 (msb 31, lsb 16) -/
theorem test_decode_binsHh : reads [0x17E1, 0xF090] (.binsHh 1 15 0 2) = true := by decide +kernel

/-- DM2: BINS r1, 12, 8, r2 (msb 19, lsb 12) -/
theorem test_decode_binsHl : reads [0x17E1, 0x38B8] (.binsHl 1 3 12 2) = true := by decide +kernel

/-- DM1: BINS r1, 4, 8, r2 -/
theorem test_decode_binsLl : reads [0x17E1, 0xB0D8] (.binsLl 1 11 4 2) = true := by decide +kernel

/-- DM7: BSH r2, r3 -/
theorem test_decode_bsh : reads [0x17E0, 0x1B42] (.bsh 2 3) = true := by decide +kernel

/-- DM10: BSW r2, r3 -/
theorem test_decode_bsw : reads [0x17E0, 0x1B40] (.bsw 2 3) = true := by decide +kernel

/-- DM17: CMOV Z, r1, r2, r3 (true) -/
theorem test_decode_cmov : reads [0x17E1, 0x1B24] (.cmov .z 1 2 3) = true := by decide +kernel

/-- DM19: CMOV NZ, -1, r2, r3 (true) -/
theorem test_decode_cmovImm : reads [0x17FF, 0x1B14] (.cmovImm .nz 31 2 3) = true := by decide +kernel

/-- DM13: HSH r2, r3 -/
theorem test_decode_hsh : reads [0x17E0, 0x1B46] (.hsh 2 3) = true := by decide +kernel

/-- DM15: HSW r2, r3 -/
theorem test_decode_hsw : reads [0x17E0, 0x1B44] (.hsw 2 3) = true := by decide +kernel

/-- DM20: ROTL 8, r2, r3 -/
theorem test_decode_rotlImm : reads [0x17E8, 0x18C4] (.rotlImm 8 2 3) = true := by decide +kernel

/-- DM22: ROTL r1, r2, r3 (count 33 -> 1) -/
theorem test_decode_rotl : reads [0x17E1, 0x18C6] (.rotl 1 2 3) = true := by decide +kernel

/-- DM26: SAR r1, r2 (count 32 -> 0) -/
theorem test_decode_sar : reads [0x17E1, 0x00A0] (.sar 1 2) = true := by decide +kernel

/-- DM23: SAR 4, r2 -/
theorem test_decode_sarImm : reads [0x12A4] (.sarImm 4 2) = true := by decide +kernel

/-- DM27: SAR r1, r2, r3 -/
theorem test_decode_sar3 : reads [0x17E1, 0x18A2] (.sar3 1 2 3) = true := by decide +kernel

/-- DM35: SASF Z, r2 (true) -/
theorem test_decode_sasf : reads [0x17E2, 0x0200] (.sasf .z 2) = true := by decide +kernel

/-- DM37: SETF LT, r2 (S xor OV = 1) -/
theorem test_decode_setf : reads [0x17E6, 0x0000] (.setf .lt 2) = true := by decide +kernel

/-- DM30: SHL r1, r2 (count 0x21 -> 1) -/
theorem test_decode_shl : reads [0x17E1, 0x00C0] (.shl 1 2) = true := by decide +kernel

/-- DM28: SHL 4, r2 -/
theorem test_decode_shlImm : reads [0x12C4] (.shlImm 4 2) = true := by decide +kernel

/-- DM31: SHL r1, r2, r3 (count 0) -/
theorem test_decode_shl3 : reads [0x17E1, 0x18C2] (.shl3 1 2 3) = true := by decide +kernel

/-- SHR r1, r2 -/
theorem test_decode_shr : reads [0x17E1, 0x0080] (.shr 1 2) = true := by decide +kernel

/-- DM32: SHR 4, r2 -/
theorem test_decode_shrImm : reads [0x1284] (.shrImm 4 2) = true := by decide +kernel

/-- DM34: SHR r1, r2, r3 -/
theorem test_decode_shr3 : reads [0x17E1, 0x1882] (.shr3 1 2 3) = true := by decide +kernel

/-- DM43: SXB r1 -/
theorem test_decode_sxb : reads [0x00A1] (.sxb 1) = true := by decide +kernel

/-- DM44: SXH r1 -/
theorem test_decode_sxh : reads [0x00E1] (.sxh 1) = true := by decide +kernel

/-- DM45: ZXB r1 -/
theorem test_decode_zxb : reads [0x0081] (.zxb 1) = true := by decide +kernel

/-- DM46: ZXH r1 -/
theorem test_decode_zxh : reads [0x00C1] (.zxh 1) = true := by decide +kernel

/-- DM47: SCH0L r2, r3 -/
theorem test_decode_sch0l : reads [0x17E0, 0x1B64] (.sch0l 2 3) = true := by decide +kernel

/-- DM50: SCH0R r2, r3 -/
theorem test_decode_sch0r : reads [0x17E0, 0x1B60] (.sch0r 2 3) = true := by decide +kernel

/-- DM52: SCH1L r2, r3 -/
theorem test_decode_sch1l : reads [0x17E0, 0x1B66] (.sch1l 2 3) = true := by decide +kernel

/-- DM55: SCH1R r2, r3 -/
theorem test_decode_sch1r : reads [0x17E0, 0x1B62] (.sch1r 2 3) = true := by decide +kernel

/-- Q1: DIV r1, r2, r3 -/
theorem test_decode_div : reads [0x17E1, 0x1AC0] (.div 1 2 3) = true := by decide +kernel

/-- Q15: DIVH r1, r2 -/
theorem test_decode_divh2 : reads [0x1041] (.divh2 1 2) = true := by decide +kernel

/-- Q18: DIVH r1, r2, r3 -/
theorem test_decode_divh3 : reads [0x17E1, 0x1A80] (.divh3 1 2 3) = true := by decide +kernel

/-- Q19: DIVHU r1, r2, r3 -/
theorem test_decode_divhu : reads [0x17E1, 0x1A82] (.divhu 1 2 3) = true := by decide +kernel

/-- Q11: DIVU r1, r2, r3 -/
theorem test_decode_divu : reads [0x17E1, 0x1AC2] (.divu 1 2 3) = true := by decide +kernel

/-- Q9: DIVQ r1, r2, r3 (same results as DIV) -/
theorem test_decode_divq : reads [0x17E1, 0x1AFC] (.divq 1 2 3) = true := by decide +kernel

/-- Q14: DIVQU r1, r2, r3 -/
theorem test_decode_divqu : reads [0x17E1, 0x1AFE] (.divqu 1 2 3) = true := by decide +kernel

/-- B1: BNE +0x10 (taken) -/
theorem test_decode_bcond9 : reads [0x0D8A] (.bcond9 .nz 8) = true := by decide +kernel

/-- B8: BNE +0x1000 (disp17, taken) -/
theorem test_decode_bcond17 : reads [0x07EA, 0x1001] (.bcond17 .nz 0x800) = true := by decide +kernel

/-- B12: JARL 0x100, r31 -/
theorem test_decode_jarl22 : reads [0xFF80, 0x0100] (.jarl22 0x80 31) = true := by decide +kernel

/-- B14: JARL 0x12345678, r1 (disp32) -/
theorem test_decode_jarl32 : reads [0x02E1, 0x5678, 0x1234] (.jarl32 0x91A2B3C 1) = true := by decide +kernel

/-- B15: JARL [r1], r3 -/
theorem test_decode_jarlReg : reads [0xC7E1, 0x1960] (.jarlReg 1 3) = true := by decide +kernel

/-- B17: JMP [r31] -/
theorem test_decode_jmpReg : reads [0x007F] (.jmpReg 31) = true := by decide +kernel

/-- B18: JMP 0x100[r1] -/
theorem test_decode_jmp32 : reads [0x06E1, 0x0100, 0x0000] (.jmp32 0x80 1) = true := by decide +kernel

/-- B19: JR -4 -/
theorem test_decode_jr22 : reads [0x07BF, 0xFFFC] (.jr22 0x1FFFFE) = true := by decide +kernel

/-- B20: JR 0x12345678 (disp32) -/
theorem test_decode_jr32 : reads [0x02E0, 0x5678, 0x1234] (.jr32 0x91A2B3C) = true := by decide +kernel

/-- B21: LOOP r1, 0x10 (taken) -/
theorem test_decode_loop : reads [0x06E1, 0x0011] (.loop 1 8) = true := by decide +kernel

/-- M4: CLR1 3, 0x10[r1] -/
theorem test_decode_clr1 : reads [0x9FC1, 0x0010] (.clr1 3 16 1) = true := by decide +kernel

/-- M5: CLR1 r2, [r1] -/
theorem test_decode_clr1Reg : reads [0x17E1, 0x00E4] (.clr1Reg 1 2) = true := by decide +kernel

/-- M6: NOT1 3, 0x10[r1] -/
theorem test_decode_not1 : reads [0x5FC1, 0x0010] (.not1 3 16 1) = true := by decide +kernel

/-- M7: NOT1 r2, [r1] -/
theorem test_decode_not1Reg : reads [0x17E1, 0x00E2] (.not1Reg 1 2) = true := by decide +kernel

/-- M1: SET1 3, 0x10[r1] -/
theorem test_decode_set1 : reads [0x1FC1, 0x0010] (.set1 3 16 1) = true := by decide +kernel

/-- M3: SET1 r2, [r1] (bit number = r2[2:0]) -/
theorem test_decode_set1Reg : reads [0x17E1, 0x00E0] (.set1Reg 1 2) = true := by decide +kernel

/-- M8: TST1 3, 0x10[r1] -/
theorem test_decode_tst1 : reads [0xDFC1, 0x0010] (.tst1 3 16 1) = true := by decide +kernel

/-- M9: TST1 r2, [r1] -/
theorem test_decode_tst1Reg : reads [0x17E1, 0x00E6] (.tst1Reg 1 2) = true := by decide +kernel

/-- X1: CALLT 5 -/
theorem test_decode_callt : reads [0x0205] (.callt 5) = true := by decide +kernel

/-- X3: CAXI [r1], r2, r3 (match) -/
theorem test_decode_caxi : reads [0x17E1, 0x18EE] (.caxi 1 2 3) = true := by decide +kernel

/-- X21: CLL (not implemented on this core: RIE) -/
theorem test_decode_cll : reads [0xFFFF, 0xF160] (.cll) = true := by decide +kernel

/-- X2: CTRET -/
theorem test_decode_ctret : reads [0x07E0, 0x0144] (.ctret) = true := by decide +kernel

/-- X6: DI -/
theorem test_decode_di : reads [0x07E0, 0x0160] (.di) = true := by decide +kernel

/-- X61: DISPOSE 4, {r29, r31} -/
theorem test_decode_dispose : reads [0x0648, 0x0060] (.dispose 4 6) = true := by decide +kernel

/-- X62: DISPOSE 4, {r29, r31}, [r31] -/
theorem test_decode_disposeJmp : reads [0x0648, 0x007F] (.disposeJmp 4 6 31) = true := by decide +kernel

/-- X7: EI -/
theorem test_decode_ei : reads [0x87E0, 0x0160] (.ei) = true := by decide +kernel

/-- X10: EIRET (EP=0, ISPC=0) -/
theorem test_decode_eiret : reads [0x07E0, 0x0148] (.eiret) = true := by decide +kernel

/-- X14: FERET (EP=0) -/
theorem test_decode_feret : reads [0x07E0, 0x014A] (.feret) = true := by decide +kernel

/-- X15: FETRAP 1 -/
theorem test_decode_fetrap : reads [0x0840] (.fetrap 1) = true := by decide +kernel

/-- X24: HALT -/
theorem test_decode_halt : reads [0x07E0, 0x0120] (.halt) = true := by decide +kernel

/-- X52: LDL.W [r1], r3 -/
theorem test_decode_ldlW : reads [0x07E1, 0x1B78] (.ldlW 1 3) = true := by decide +kernel

/-- X31: LDSR r1, 5 (PSW, supervisor) -/
theorem test_decode_ldsr : reads [0x2FE1, 0x0020] (.ldsr 1 5 0) = true := by decide +kernel

/-- X27: NOP -/
theorem test_decode_nop : reads [0x0000] (.nop) = true := by decide +kernel

/-- X67: POPSP r20-r22 -/
theorem test_decode_popsp : reads [0x67F4, 0xB160] (.popsp 20 22) = true := by decide +kernel

/-- X54: PREPARE {r29, r31}, 4 -/
theorem test_decode_prepare : reads [0x0788, 0x0061] (.prepare 4 6) = true := by decide +kernel

/-- X55: PREPARE {r29, r31}, 4, sp -/
theorem test_decode_prepareSp : reads [0x0788, 0x0063] (.prepareSp 4 6) = true := by decide +kernel

/-- X56: PREPARE {r20}, 0, 0x8000 (sign-extended) -/
theorem test_decode_prepareImmLo : reads [0x0780, 0x080B, 0x8000] (.prepareImmLo 0 0x80 0x8000) = true := by decide +kernel

/-- X57: PREPARE {r20}, 0, 0x8000 (shifted) -/
theorem test_decode_prepareImmHi : reads [0x0780, 0x0813, 0x8000] (.prepareImmHi 0 0x80 0x8000) = true := by decide +kernel

/-- X58: PREPARE {}, 1, 0x12345678 -/
theorem test_decode_prepareImm32 : reads [0x0782, 0x001B, 0x5678, 0x1234] (.prepareImm32 1 0 0x12345678) = true := by decide +kernel

/-- X64: PUSHSP r20-r22 -/
theorem test_decode_pushsp : reads [0x47F4, 0xB160] (.pushsp 20 22) = true := by decide +kernel

/-- X19: RIE -/
theorem test_decode_rie : reads [0x0040] (.rie) = true := by decide +kernel

/-- X20: RIE 0, 0 -/
theorem test_decode_rieImm : reads [0x07F0, 0x0000] (.rieImm 0 0) = true := by decide +kernel

/-- X26: SNOOZE -/
theorem test_decode_snooze : reads [0x0FE0, 0x0120] (.snooze) = true := by decide +kernel

/-- X53: STC.W r3, [r1] -/
theorem test_decode_stcW : reads [0x07E1, 0x1B7A] (.stcW 1 3) = true := by decide +kernel

/-- X42: STSR 5, r2 (PSW, user mode) -/
theorem test_decode_stsr : reads [0x17E5, 0x0040] (.stsr 5 2 0) = true := by decide +kernel

/-- X50: SWITCH r1 -/
theorem test_decode_switch : reads [0x0041] (.switch 1) = true := by decide +kernel

/-- SYNCE -/
theorem test_decode_synce : reads [0x001D] (.synce) = true := by decide +kernel

/-- SYNCI -/
theorem test_decode_synci : reads [0x001C] (.synci) = true := by decide +kernel

/-- X28: SYNCM -/
theorem test_decode_syncm : reads [0x001E] (.syncm) = true := by decide +kernel

/-- SYNCP -/
theorem test_decode_syncp : reads [0x001F] (.syncp) = true := by decide +kernel

/-- X22: SYSCALL 0x25 -/
theorem test_decode_syscall : reads [0xD7E5, 0x0960] (.syscall 0x25) = true := by decide +kernel

/-- X17: TRAP 0x11 -/
theorem test_decode_trap : reads [0x07F1, 0x0100] (.trap 17) = true := by decide +kernel

/-- X29: CACHE 0, [r1] -/
theorem test_decode_cache : reads [0xE7E1, 0x0160] (.cache 0 1) = true := by decide +kernel

/-- X30: PREF 0, [r1] -/
theorem test_decode_pref : reads [0xDFE1, 0x0160] (.pref 0 1) = true := by decide +kernel

/-! ### Patterns that are no instruction (spec/30_encoding.md R178, R179) -/

theorem test_rejects_br_disp17 : rejects [0x07E5, 0x0001] .prohibitedBranchAlways17 = true := by decide +kernel

theorem test_rejects_loop_r0 : rejects [0x06E0, 0x0011] .prohibitedLoopR0 = true := by decide +kernel

theorem test_rejects_divh_r0 : rejects [0x8040] .prohibitedDivhR0 = true := by decide +kernel

theorem test_rejects_jarl_r0 : rejects [0xC7E1, 0x0160] .prohibitedJarlR0 = true := by decide +kernel

theorem test_rejects_nop_neighbour : rejects [0x0001] .undefined = true := by decide +kernel

/-- A required digit of TRAP set. -/
theorem test_rejects_trap_digit : rejects [0x0FF1, 0x0100] .undefined = true := by decide +kernel

theorem test_rejects_truncated : rejects [0x5F0A] .truncated = true := by decide +kernel

/-! ### WellFormed refuses an ill-formed term of each check -/

theorem test_ill_reg2 :
    ([.ldBu16 1 1 0, .ldHu16 1 1 0, .sldBu 1 0, .sldHu 1 0, .mulh 1 0, .mulhImm 1 0, .mulhi 1 1 0, .movReg 1 0,
      .movImm5 1 0, .movea 1 1 0, .movhi 1 1 0, .satadd 1 0, .sataddImm 1 0, .satsub 1 0, .satsubi 1 1 0, .satsubr 1 0,
      .jarl22 1 0] : List Instr).all (fun i => !i.wellFormed) = true := by decide

theorem test_ill_divh : ([.divh2 0 1, .divh2 1 0] : List Instr).all (fun i => !i.wellFormed) = true := by decide

theorem test_ill_condition :
    ([.adf .sa 1 2 3, .sbf .sa 1 2 3, .bcond17 .t 1] : List Instr).all (fun i => !i.wellFormed) = true := by decide

theorem test_ill_reg1 :
    ([.jarl32 1 0, .loop 0 1, .disposeJmp 0 0 0, .switch 0] : List Instr).all (fun i => !i.wellFormed) = true := by
  decide

theorem test_ill_reg3 : (Instr.jarlReg 1 0).wellFormed = false := by decide

theorem test_ill_vector4 : (Instr.fetrap 0).wellFormed = false := by decide

/-- The word of CLL is not one of CACHE. -/
theorem test_ill_cache : (Instr.cache 0x7E 31).wellFormed = false := by decide


/-! ### One step of every instruction -/

/-- L1: LD.B -4[r10], r11 -/
theorem test_ldB16 : goes [0x5F0A, 0xFFFC] (base |> gr 10 0x2004 |> mem 0x2000 1 0xFE)
    (fun t => t.reg 11 == 0xFFFFFFFE && t.pc == 0x104) = true := by decide +kernel

/-- MP15: LD.B 0[r1], r2 (supervisor, MPM.SVP=1, no area, DR=0) -/
theorem test_ldB16_b : goes [0x1701, 0x0000] (base |> pc 0x1000 |> gr 1 0x3000 |> mpuS)
    (fun t => t.sys.fepc == 0x1000 && t.sys.fepsw == 0x20 && t.psw.toWord == 0xE0 && t.sys.feic == 0x80091 &&
      t.sys.mea == 0x3000 && t.sys.mei == 0x20002 && t.pc == 0x90) = true := by decide +kernel

/-- L3: LD.B 0x12345[r1], r2 -/
theorem test_ldB23 : goes [0x0781, 0x1455, 0x0246] (base |> gr 1 0x1000 |> mem 0x13345 1 0x7F)
    (fun t => t.reg 2 == 0x7F && t.pc == 0x106) = true := by decide +kernel

/-- L2: LD.BU -4[r10], r11 -/
theorem test_ldBu16 : goes [0x5F8A, 0xFFFD] (base |> gr 10 0x2004 |> mem 0x2000 1 0xFE)
    (fun t => t.reg 11 == 0xFE && t.pc == 0x104) = true := by decide +kernel

/-- LD.BU 0x12345[r1], r2 -/
theorem test_ldBu23 : goes [0x07A1, 0x1455, 0x0246] (base |> gr 1 0x1000 |> mem 0x13345 1 0xFE)
    (fun t => t.reg 2 == 0xFE && t.pc == 0x106) = true := by decide +kernel

/-- L11: LD.DW 8[r2], r4 -/
theorem test_ldDw : goes [0x07A2, 0x2089, 0x0000] (base |> gr 2 0x2000 |> mem 0x2008 4 0x11223344 |> mem 0x200C 4
    0x55667788)
    (fun t => t.reg 4 == 0x11223344 && t.reg 5 == 0x55667788 && t.pc == 0x106) = true := by decide +kernel

/-- L12: LD.DW 4[r2], r4 (word-aligned, allowed) -/
theorem test_ldDw_b : goes [0x07A2, 0x2049, 0x0000] (base |> gr 2 0x2000 |> mem 0x2004 4 0x11223344 |> mem 0x2008 4
    0x55667788)
    (fun t => t.reg 4 == 0x11223344 && t.reg 5 == 0x55667788 && t.pc == 0x106) = true := by decide +kernel

/-- L5: LD.H 2[r1], r2 -/
theorem test_ldH16 : goes [0x1721, 0x0002] (base |> gr 1 0x2000 |> mem 0x2002 2 0x8001)
    (fun t => t.reg 2 == 0xFFFF8001 && t.pc == 0x104) = true := by decide +kernel

/-- L16: LD.H 0[r1], r2 (misaligned base, MCTL.MA=0) -/
theorem test_ldH16_b : goes [0x1721, 0x0000] (base |> gr 1 0x2001 |> mem 0x2000 4 0x33221100)
    (fun t => t.sys.fepc == 0x100 && t.sys.fepsw == 0x20 && t.psw.toWord == 0xE0 && t.sys.feic == 0xC0 &&
      t.sys.mea == 0x2001 && t.sys.mei == 0x20202 && t.pc == 0xC0) = true := by decide +kernel

/-- LD.H 0x12346[r1], r2 -/
theorem test_ldH23 : goes [0x0781, 0x1467, 0x0246] (base |> gr 1 0x1000 |> mem 0x13346 2 0x8001)
    (fun t => t.reg 2 == 0xFFFF8001 && t.pc == 0x106) = true := by decide +kernel

/-- L6: LD.HU 2[r1], r2 -/
theorem test_ldHu16 : goes [0x17E1, 0x0003] (base |> gr 1 0x2000 |> mem 0x2002 2 0x8001)
    (fun t => t.reg 2 == 0x8001 && t.pc == 0x104) = true := by decide +kernel

/-- LD.HU 0x12346[r1], r2 -/
theorem test_ldHu23 : goes [0x07A1, 0x1467, 0x0246] (base |> gr 1 0x1000 |> mem 0x13346 2 0x8001)
    (fun t => t.reg 2 == 0x8001 && t.pc == 0x106) = true := by decide +kernel

/-- L7: LD.W 8[r3], r4 -/
theorem test_ldW16 : goes [0x2723, 0x0009] (base |> gr 3 0x2000 |> mem 0x2008 4 0xDEADBEEF)
    (fun t => t.reg 4 == 0xDEADBEEF && t.pc == 0x104) = true := by decide +kernel

/-- L9: LD.W 4[r1], r0 (result discarded) -/
theorem test_ldW16_b : goes [0x0721, 0x0005] (base |> gr 1 0x2000 |> mem 0x2004 4 0x12345678)
    (fun t => t.pc == 0x104) = true := by decide +kernel

/-- LD.W 0x100[r1], r2 -/
theorem test_ldW23 : goes [0x0781, 0x1009, 0x0002] (base |> gr 1 0x1000 |> mem 0x1100 4 0x89ABCDEF)
    (fun t => t.reg 2 == 0x89ABCDEF && t.pc == 0x106) = true := by decide +kernel

/-- L19: SLD.B 3[ep], r5 -/
theorem test_sldB : goes [0x2B03] (base |> gr 30 0x3000 |> mem 0x3003 1 0x80)
    (fun t => t.reg 5 == 0xFFFFFF80 && t.pc == 0x102) = true := by decide +kernel

/-- L20: SLD.BU 3[ep], r5 -/
theorem test_sldBu : goes [0x2863] (base |> gr 30 0x3000 |> mem 0x3003 1 0x80)
    (fun t => t.reg 5 == 0x80 && t.pc == 0x102) = true := by decide +kernel

/-- L21: SLD.H 4[ep], r5 -/
theorem test_sldH : goes [0x2C02] (base |> gr 30 0x3000 |> mem 0x3004 2 0xFFFE)
    (fun t => t.reg 5 == 0xFFFFFFFE && t.pc == 0x102) = true := by decide +kernel

/-- L22: SLD.HU 4[ep], r5 -/
theorem test_sldHu : goes [0x2872] (base |> gr 30 0x3000 |> mem 0x3004 2 0xFFFE)
    (fun t => t.reg 5 == 0xFFFE && t.pc == 0x102) = true := by decide +kernel

/-- L23: SLD.W 8[ep], r5 -/
theorem test_sldW : goes [0x2D04] (base |> gr 30 0x3000 |> mem 0x3008 4 0x89ABCDEF)
    (fun t => t.reg 5 == 0x89ABCDEF && t.pc == 0x102) = true := by decide +kernel

/-- L25: ST.B r7, 1[r8] -/
theorem test_stB16 : goes [0x3F48, 0x0001] (base |> gr 7 0x12345678 |> gr 8 0x2000 |> mem 0x2000 4 0xFFFFFFFF)
    (fun t => t.readLE 0x2001 1 == 0x78 && t.pc == 0x104) = true := by decide +kernel

/-- MP2: ST.B r2, 0[r1] (user, area 1 has no UW) -/
theorem test_stB16_b : goes [0x1741, 0x0000] (base |> pc 0x1000 |> psw 0x40000000 |> gr 1 0x2000 |> gr 2 0x55 |>
    mpuU)
    (fun t => t.sys.fepc == 0x1000 && t.sys.fepsw == 0x40000000 && t.psw.toWord == 0xE0 && t.sys.feic == 0x20091 &&
      t.sys.mea == 0x2000 && t.sys.mei == 0x20003 && t.pc == 0x90) = true := by decide +kernel

/-- ST.B r2, 0x12345[r1] -/
theorem test_stB23 : goes [0x0781, 0x145D, 0x0246] (base |> gr 1 0x1000 |> gr 2 0x12345678)
    (fun t => t.readLE 0x13345 1 == 0x78 && t.pc == 0x106) = true := by decide +kernel

/-- L29: ST.DW r6, -8[r3] -/
theorem test_stDw : goes [0x07A3, 0x378F, 0xFFFF] (base |> gr 3 0x2010 |> gr 6 0x11223344 |> gr 7 0x55667788)
    (fun t => t.readLE 0x2008 8 == 0x5566778811223344 && t.pc == 0x106) = true := by decide +kernel

/-- L26: ST.H r9, -2[r10] -/
theorem test_stH16 : goes [0x4F6A, 0xFFFE] (base |> gr 9 0x12345678 |> gr 10 0x2004 |> mem 0x2000 4 0xFFFFFFFF)
    (fun t => t.readLE 0x2002 2 == 0x5678 && t.pc == 0x104) = true := by decide +kernel

/-- ST.H r2, 0x12346[r1] -/
theorem test_stH23 : goes [0x07A1, 0x146D, 0x0246] (base |> gr 1 0x1000 |> gr 2 0x12345678)
    (fun t => t.readLE 0x13346 2 == 0x5678 && t.pc == 0x106) = true := by decide +kernel

/-- L27: ST.W r11, 4[r12] -/
theorem test_stW16 : goes [0x5F6C, 0x0005] (base |> gr 11 0x12345678 |> gr 12 0x2000)
    (fun t => t.readLE 0x2004 4 == 0x12345678 && t.pc == 0x104) = true := by decide +kernel

/-- L30: ST.W r2, 0x10000[r1] (disp23) -/
theorem test_stW23 : goes [0x0781, 0x100F, 0x0200] (base |> gr 1 0x2000 |> gr 2 0xA5A5A5A5)
    (fun t => t.readLE 0x12000 4 == 0xA5A5A5A5 && t.pc == 0x106) = true := by decide +kernel

/-- L33: SST.B r5, 3[ep] -/
theorem test_sstB : goes [0x2B83] (base |> gr 5 0xABCDEF12 |> gr 30 0x3000)
    (fun t => t.readLE 0x3003 1 == 0x12 && t.pc == 0x102) = true := by decide +kernel

/-- L34: SST.H r5, 4[ep] -/
theorem test_sstH : goes [0x2C82] (base |> gr 5 0xABCDEF12 |> gr 30 0x3000)
    (fun t => t.readLE 0x3004 2 == 0xEF12 && t.pc == 0x102) = true := by decide +kernel

/-- L35: SST.W r5, 8[ep] -/
theorem test_sstW : goes [0x2D05] (base |> gr 5 0xABCDEF12 |> gr 30 0x3000)
    (fun t => t.readLE 0x3008 4 == 0xABCDEF12 && t.pc == 0x102) = true := by decide +kernel

/-- A32: MUL r1, r2, r3 -/
theorem test_mul : goes [0x17E1, 0x1A20] (base |> gr 1 0xFFFFFFFE |> gr 2 0x3)
    (fun t => t.reg 2 == 0xFFFFFFFA && t.reg 3 == 0xFFFFFFFF && t.pc == 0x104) = true := by decide +kernel

/-- A34: MUL r1, r2, r3 -/
theorem test_mul_b : goes [0x17E1, 0x1A20] (base |> gr 1 0x80000000 |> gr 2 0xFFFFFFFF)
    (fun t => t.reg 2 == 0x80000000 && t.reg 3 == 0x0 && t.pc == 0x104) = true := by decide +kernel

/-- A36: MUL -3, r2, r3 -/
theorem test_mulImm : goes [0x17FD, 0x1A7C] (base |> gr 2 0x5)
    (fun t => t.reg 2 == 0xFFFFFFF1 && t.reg 3 == 0xFFFFFFFF && t.pc == 0x104) = true := by decide +kernel

/-- A40: MULH r1, r2 -/
theorem test_mulh : goes [0x10E1] (base |> gr 1 0x1FFFF |> gr 2 0x5)
    (fun t => t.reg 2 == 0xFFFFFFFB && t.pc == 0x102) = true := by decide +kernel

/-- A41: MULH r1, r2 -/
theorem test_mulh_b : goes [0x10E1] (base |> gr 1 0x8000 |> gr 2 0x8000)
    (fun t => t.reg 2 == 0x40000000 && t.pc == 0x102) = true := by decide +kernel

/-- A42: MULH -2, r2 -/
theorem test_mulhImm : goes [0x12FE] (base |> gr 2 0x12347FFF)
    (fun t => t.reg 2 == 0xFFFF0002 && t.pc == 0x102) = true := by decide +kernel

/-- A43: MULHI 0x100, r1, r2 -/
theorem test_mulhi : goes [0x16E1, 0x0100] (base |> gr 1 0x12340003)
    (fun t => t.reg 2 == 0x300 && t.pc == 0x104) = true := by decide +kernel

/-- A38: MULU r1, r2, r3 -/
theorem test_mulu : goes [0x17E1, 0x1A22] (base |> gr 1 0xFFFFFFFF |> gr 2 0xFFFFFFFF)
    (fun t => t.reg 2 == 0x1 && t.reg 3 == 0xFFFFFFFE && t.pc == 0x104) = true := by decide +kernel

/-- A39: MULU 511, r2, r3 -/
theorem test_muluImm : goes [0x17FF, 0x1A7E] (base |> gr 2 0x80000000)
    (fun t => t.reg 2 == 0x80000000 && t.reg 3 == 0xFF && t.pc == 0x104) = true := by decide +kernel

/-- A45: MAC r1, r2, r4, r6 -/
theorem test_mac : goes [0x17E1, 0x23C6] (base |> gr 1 0x2 |> gr 2 0x3 |> gr 4 0xFFFFFFFF |> gr 5 0x0)
    (fun t => t.reg 6 == 0x5 && t.reg 7 == 0x1 && t.pc == 0x104) = true := by decide +kernel

/-- A46: MAC r1, r2, r4, r6 -/
theorem test_mac_b : goes [0x17E1, 0x23C6] (base |> gr 1 0xFFFFFFFF |> gr 2 0x1 |> gr 4 0x0 |> gr 5 0x0)
    (fun t => t.reg 6 == 0xFFFFFFFF && t.reg 7 == 0xFFFFFFFF && t.pc == 0x104) = true := by decide +kernel

/-- A48: MACU r1, r2, r4, r6 -/
theorem test_macu : goes [0x17E1, 0x23E6] (base |> gr 1 0xFFFFFFFF |> gr 2 0x2 |> gr 4 0x1 |> gr 5 0x0)
    (fun t => t.reg 6 == 0xFFFFFFFF && t.reg 7 == 0x1 && t.pc == 0x104) = true := by decide +kernel

/-- A1: ADD r1, r2 -/
theorem test_addReg : goes [0x11C1] (base |> gr 1 0x1 |> gr 2 0x7FFFFFFF)
    (fun t => t.reg 2 == 0x80000000 && t.psw.toWord == 0x26 && t.pc == 0x102) = true := by decide +kernel

/-- A2: ADD r1, r2 -/
theorem test_addReg_b : goes [0x11C1] (base |> gr 1 0x1 |> gr 2 0xFFFFFFFF)
    (fun t => t.reg 2 == 0x0 && t.psw.toWord == 0x29 && t.pc == 0x102) = true := by decide +kernel

/-- A5: ADD -1, r2 -/
theorem test_addImm : goes [0x125F] (base |> gr 2 0x0)
    (fun t => t.reg 2 == 0xFFFFFFFF && t.psw.toWord == 0x22 && t.pc == 0x102) = true := by decide +kernel

/-- A7: ADDI 0x1234, r1, r2 -/
theorem test_addi : goes [0x1601, 0x1234] (base |> gr 1 0x10000)
    (fun t => t.reg 2 == 0x11234 && t.pc == 0x104) = true := by decide +kernel

/-- A9: CMP r1, r2 -/
theorem test_cmpReg : goes [0x11E1] (base |> gr 1 0x7 |> gr 2 0x5)
    (fun t => t.psw.toWord == 0x2A && t.pc == 0x102) = true := by decide +kernel

/-- A11: CMP r1, r2 -/
theorem test_cmpReg_b : goes [0x11E1] (base |> gr 1 0x1 |> gr 2 0x80000000)
    (fun t => t.psw.toWord == 0x24 && t.pc == 0x102) = true := by decide +kernel

/-- A12: CMP -16, r2 -/
theorem test_cmpImm : goes [0x1270] (base |> gr 2 0xFFFFFFF0)
    (fun t => t.psw.toWord == 0x21 && t.pc == 0x102) = true := by decide +kernel

/-- A13: MOV r1, r2 -/
theorem test_movReg : goes [0x1001] (base |> psw 0x3F |> gr 1 0xCAFEBABE)
    (fun t => t.reg 2 == 0xCAFEBABE && t.pc == 0x102) = true := by decide +kernel

/-- A14: MOV -16, r2 -/
theorem test_movImm5 : goes [0x1210] (base)
    (fun t => t.reg 2 == 0xFFFFFFF0 && t.pc == 0x102) = true := by decide +kernel

/-- A15: MOV 0x12345678, r1 -/
theorem test_movImm32 : goes [0x0621, 0x5678, 0x1234] (base)
    (fun t => t.reg 1 == 0x12345678 && t.pc == 0x106) = true := by decide +kernel

/-- MP12: MOV 0x12345678, r1 (user, 48-bit instruction crosses the end of area 0: MIP) -/
theorem test_movImm32_b : goes [0x0621, 0x5678, 0x1234] (base |> pc 0x1FFC |> psw 0x40000000 |> mpuU)
    (fun t => t.sys.fepc == 0x1FFC && t.sys.fepsw == 0x40000000 && t.psw.toWord == 0xE0 && t.sys.feic == 0x90 &&
      t.sys.mea == 0x1FFC && t.pc == 0x90) = true := by decide +kernel

/-- A16: MOVEA -1, r1, r2 -/
theorem test_movea : goes [0x1621, 0xFFFF] (base |> gr 1 0x0)
    (fun t => t.reg 2 == 0xFFFFFFFF && t.pc == 0x104) = true := by decide +kernel

/-- A18: MOVHI 0x1234, r0, r2 -/
theorem test_movhi : goes [0x1640, 0x1234] (base)
    (fun t => t.reg 2 == 0x12340000 && t.pc == 0x104) = true := by decide +kernel

/-- A20: SUB r1, r2 -/
theorem test_sub : goes [0x11A1] (base |> gr 1 0x1 |> gr 2 0x0)
    (fun t => t.reg 2 == 0xFFFFFFFF && t.psw.toWord == 0x2A && t.pc == 0x102) = true := by decide +kernel

/-- A22: SUB r1, r2 -/
theorem test_sub_b : goes [0x11A1] (base |> gr 1 0xFFFFFFFF |> gr 2 0x7FFFFFFF)
    (fun t => t.reg 2 == 0x80000000 && t.psw.toWord == 0x2E && t.pc == 0x102) = true := by decide +kernel

/-- A24: SUBR r1, r2 -/
theorem test_subr : goes [0x1181] (base |> gr 1 0xA |> gr 2 0x3)
    (fun t => t.reg 2 == 0x7 && t.pc == 0x102) = true := by decide +kernel

/-- A26: ADF C, r1, r2, r3 (condition true) -/
theorem test_adf : goes [0x17E1, 0x1BA2] (base |> psw 0x28 |> gr 1 0xFFFFFFFF |> gr 2 0x0)
    (fun t => t.reg 3 == 0x0 && t.psw.toWord == 0x29 && t.pc == 0x104) = true := by decide +kernel

/-- A29: SBF C, r1, r2, r3 (condition true) -/
theorem test_sbf : goes [0x17E1, 0x1B82] (base |> psw 0x28 |> gr 1 0x0 |> gr 2 0x0)
    (fun t => t.reg 3 == 0xFFFFFFFF && t.psw.toWord == 0x2A && t.pc == 0x104) = true := by decide +kernel

/-- A30: SBF C, r1, r2, r3 (condition true) -/
theorem test_sbf_b : goes [0x17E1, 0x1B82] (base |> psw 0x28 |> gr 1 0xFFFFFFFF |> gr 2 0x0)
    (fun t => t.reg 3 == 0x0 && t.psw.toWord == 0x29 && t.pc == 0x104) = true := by decide +kernel

/-- S1: SATADD r1, r2 -/
theorem test_satadd : goes [0x10C1] (base |> gr 1 0x1 |> gr 2 0x7FFFFFFF)
    (fun t => t.reg 2 == 0x7FFFFFFF && t.psw.toWord == 0x34 && t.pc == 0x102) = true := by decide +kernel

/-- S3: SATADD r1, r2 (SAT stays 1) -/
theorem test_satadd_b : goes [0x10C1] (base |> psw 0x30 |> gr 1 0x1 |> gr 2 0x2)
    (fun t => t.reg 2 == 0x3 && t.pc == 0x102) = true := by decide +kernel

/-- S5: SATADD -16, r2 -/
theorem test_sataddImm : goes [0x1230] (base |> gr 2 0x80000005)
    (fun t => t.reg 2 == 0x80000000 && t.psw.toWord == 0x3E && t.pc == 0x102) = true := by decide +kernel

/-- S6: SATADD r1, r2, r3 -/
theorem test_satadd3 : goes [0x17E1, 0x1BBA] (base |> gr 1 0x40000000 |> gr 2 0x40000000)
    (fun t => t.reg 3 == 0x7FFFFFFF && t.psw.toWord == 0x34 && t.pc == 0x104) = true := by decide +kernel

/-- S7: SATSUB r1, r2 -/
theorem test_satsub : goes [0x10A1] (base |> gr 1 0x1 |> gr 2 0x80000000)
    (fun t => t.reg 2 == 0x80000000 && t.psw.toWord == 0x36 && t.pc == 0x102) = true := by decide +kernel

/-- S8: SATSUB r1, r2 -/
theorem test_satsub_b : goes [0x10A1] (base |> gr 1 0xFFFFFFFF |> gr 2 0x7FFFFFFF)
    (fun t => t.reg 2 == 0x7FFFFFFF && t.psw.toWord == 0x3C && t.pc == 0x102) = true := by decide +kernel

/-- S9: SATSUB r1, r2, r3 -/
theorem test_satsub3 : goes [0x17E1, 0x1B9A] (base |> gr 1 0x5 |> gr 2 0x3)
    (fun t => t.reg 3 == 0xFFFFFFFE && t.psw.toWord == 0x2A && t.pc == 0x104) = true := by decide +kernel

/-- S10: SATSUBI 1, r1, r2 -/
theorem test_satsubi : goes [0x1661, 0x0001] (base |> gr 1 0x80000000)
    (fun t => t.reg 2 == 0x80000000 && t.psw.toWord == 0x36 && t.pc == 0x104) = true := by decide +kernel

/-- S12: SATSUBR r1, r2 -/
theorem test_satsubr : goes [0x1081] (base |> gr 1 0x80000000 |> gr 2 0x1)
    (fun t => t.reg 2 == 0x80000000 && t.psw.toWord == 0x36 && t.pc == 0x102) = true := by decide +kernel

/-- S13: SATSUBR r1, r2 -/
theorem test_satsubr_b : goes [0x1081] (base |> gr 1 0x7 |> gr 2 0x7)
    (fun t => t.reg 2 == 0x0 && t.psw.toWord == 0x21 && t.pc == 0x102) = true := by decide +kernel

/-- S14: AND r1, r2 -/
theorem test_andReg : goes [0x1141] (base |> psw 0x2C |> gr 1 0xF0F0F0F0 |> gr 2 0xFF00FF0)
    (fun t => t.reg 2 == 0xF000F0 && t.psw.toWord == 0x28 && t.pc == 0x102) = true := by decide +kernel

/-- S15: AND r1, r2 (zero result) -/
theorem test_andReg_b : goes [0x1141] (base |> gr 1 0xF0F0F0F0 |> gr 2 0xF0F0F0F)
    (fun t => t.reg 2 == 0x0 && t.psw.toWord == 0x21 && t.pc == 0x102) = true := by decide +kernel

/-- S16: ANDI 0x00FF, r1, r2 -/
theorem test_andi : goes [0x16C1, 0x00FF] (base |> gr 1 0xFFFFFFFF)
    (fun t => t.reg 2 == 0xFF && t.pc == 0x104) = true := by decide +kernel

/-- S18: NOT r1, r2 -/
theorem test_notReg : goes [0x1021] (base |> gr 1 0x0)
    (fun t => t.reg 2 == 0xFFFFFFFF && t.psw.toWord == 0x22 && t.pc == 0x102) = true := by decide +kernel

/-- S19: OR r1, r2 -/
theorem test_orReg : goes [0x1101] (base |> gr 1 0x80000000 |> gr 2 0x1)
    (fun t => t.reg 2 == 0x80000001 && t.psw.toWord == 0x22 && t.pc == 0x102) = true := by decide +kernel

/-- S20: ORI 0x8000, r1, r2 -/
theorem test_ori : goes [0x1681, 0x8000] (base |> gr 1 0x0)
    (fun t => t.reg 2 == 0x8000 && t.pc == 0x104) = true := by decide +kernel

/-- S21: TST r1, r2 -/
theorem test_tst : goes [0x1161] (base |> gr 1 0x80000000 |> gr 2 0xFFFFFFFF)
    (fun t => t.psw.toWord == 0x22 && t.pc == 0x102) = true := by decide +kernel

/-- S22: TST r1, r2 -/
theorem test_tst_b : goes [0x1161] (base |> psw 0x28 |> gr 1 0x1 |> gr 2 0x2)
    (fun t => t.psw.toWord == 0x29 && t.pc == 0x102) = true := by decide +kernel

/-- S23: XOR r1, r2 -/
theorem test_xorReg : goes [0x1121] (base |> gr 1 0xFFFFFFFF |> gr 2 0xFFFFFFFF)
    (fun t => t.reg 2 == 0x0 && t.psw.toWord == 0x21 && t.pc == 0x102) = true := by decide +kernel

/-- S25: XORI 0xFFFF, r1, r2 -/
theorem test_xori : goes [0x16A1, 0xFFFF] (base |> gr 1 0xFFFF0000)
    (fun t => t.reg 2 == 0xFFFFFFFF && t.psw.toWord == 0x22 && t.pc == 0x104) = true := by decide +kernel

/-- DM3: BINS r1, 16, 16, r2 (msb 31, lsb 16) -/
theorem test_binsHh : goes [0x17E1, 0xF090] (base |> gr 1 0x8000 |> gr 2 0xFFFF)
    (fun t => t.reg 2 == 0x8000FFFF && t.psw.toWord == 0x22 && t.pc == 0x104) = true := by decide +kernel

/-- DM2: BINS r1, 12, 8, r2 (msb 19, lsb 12) -/
theorem test_binsHl : goes [0x17E1, 0x38B8] (base |> gr 1 0xFFFFFF00 |> gr 2 0x11111111)
    (fun t => t.reg 2 == 0x11100111 && t.pc == 0x104) = true := by decide +kernel

/-- DM5: BINS r1, 0, 32, r2 (msb 31, lsb 0: whole word) -/
theorem test_binsHl_b : goes [0x17E1, 0xF0B0] (base |> gr 1 0x12345678 |> gr 2 0xFFFFFFFF)
    (fun t => t.reg 2 == 0x12345678 && t.pc == 0x104) = true := by decide +kernel

/-- DM1: BINS r1, 4, 8, r2 -/
theorem test_binsLl : goes [0x17E1, 0xB0D8] (base |> gr 1 0xABCD |> gr 2 0xFFFFFFFF)
    (fun t => t.reg 2 == 0xFFFFFCDF && t.psw.toWord == 0x22 && t.pc == 0x104) = true := by decide +kernel

/-- DM4: BINS r1, 0, 1, r2 (msb 0, lsb 0) -/
theorem test_binsLl_b : goes [0x17E1, 0x00D0] (base |> psw 0x28 |> gr 1 0x0 |> gr 2 0x1)
    (fun t => t.reg 2 == 0x0 && t.psw.toWord == 0x29 && t.pc == 0x104) = true := by decide +kernel

/-- DM7: BSH r2, r3 -/
theorem test_bsh : goes [0x17E0, 0x1B42] (base |> gr 2 0x11223344)
    (fun t => t.reg 3 == 0x22114433 && t.pc == 0x104) = true := by decide +kernel

/-- DM8: BSH r2, r3 -/
theorem test_bsh_b : goes [0x17E0, 0x1B42] (base |> gr 2 0x120000)
    (fun t => t.reg 3 == 0x12000000 && t.psw.toWord == 0x29 && t.pc == 0x104) = true := by decide +kernel

/-- DM10: BSW r2, r3 -/
theorem test_bsw : goes [0x17E0, 0x1B40] (base |> gr 2 0x11223344)
    (fun t => t.reg 3 == 0x44332211 && t.pc == 0x104) = true := by decide +kernel

/-- DM11: BSW r2, r3 -/
theorem test_bsw_b : goes [0x17E0, 0x1B40] (base |> gr 2 0x80)
    (fun t => t.reg 3 == 0x80000000 && t.psw.toWord == 0x2A && t.pc == 0x104) = true := by decide +kernel

/-- DM17: CMOV Z, r1, r2, r3 (true) -/
theorem test_cmov : goes [0x17E1, 0x1B24] (base |> psw 0x21 |> gr 1 0x11111111 |> gr 2 0x22222222)
    (fun t => t.reg 3 == 0x11111111 && t.pc == 0x104) = true := by decide +kernel

/-- DM18: CMOV Z, r1, r2, r3 (false) -/
theorem test_cmov_b : goes [0x17E1, 0x1B24] (base |> gr 1 0x11111111 |> gr 2 0x22222222)
    (fun t => t.reg 3 == 0x22222222 && t.pc == 0x104) = true := by decide +kernel

/-- DM19: CMOV NZ, -1, r2, r3 (true) -/
theorem test_cmovImm : goes [0x17FF, 0x1B14] (base |> gr 2 0x22222222)
    (fun t => t.reg 3 == 0xFFFFFFFF && t.pc == 0x104) = true := by decide +kernel

/-- DM13: HSH r2, r3 -/
theorem test_hsh : goes [0x17E0, 0x1B46] (base |> gr 2 0x12340000)
    (fun t => t.reg 3 == 0x12340000 && t.psw.toWord == 0x29 && t.pc == 0x104) = true := by decide +kernel

/-- DM14: HSH r2, r3 -/
theorem test_hsh_b : goes [0x17E0, 0x1B46] (base |> gr 2 0x80000001)
    (fun t => t.reg 3 == 0x80000001 && t.psw.toWord == 0x22 && t.pc == 0x104) = true := by decide +kernel

/-- DM15: HSW r2, r3 -/
theorem test_hsw : goes [0x17E0, 0x1B44] (base |> gr 2 0x12345678)
    (fun t => t.reg 3 == 0x56781234 && t.pc == 0x104) = true := by decide +kernel

/-- DM20: ROTL 8, r2, r3 -/
theorem test_rotlImm : goes [0x17E8, 0x18C4] (base |> gr 2 0x81000000)
    (fun t => t.reg 3 == 0x81 && t.psw.toWord == 0x28 && t.pc == 0x104) = true := by decide +kernel

/-- DM21: ROTL 0, r2, r3 (count 0) -/
theorem test_rotlImm_b : goes [0x17E0, 0x18C4] (base |> psw 0x28 |> gr 2 0x80000001)
    (fun t => t.reg 3 == 0x80000001 && t.psw.toWord == 0x22 && t.pc == 0x104) = true := by decide +kernel

/-- DM22: ROTL r1, r2, r3 (count 33 -> 1) -/
theorem test_rotl : goes [0x17E1, 0x18C6] (base |> gr 1 0x21 |> gr 2 0x40000000)
    (fun t => t.reg 3 == 0x80000000 && t.psw.toWord == 0x22 && t.pc == 0x104) = true := by decide +kernel

/-- DM26: SAR r1, r2 (count 32 -> 0) -/
theorem test_sar : goes [0x17E1, 0x00A0] (base |> psw 0x28 |> gr 1 0x20 |> gr 2 0x7FFFFFFF)
    (fun t => t.reg 2 == 0x7FFFFFFF && t.psw.toWord == 0x20 && t.pc == 0x104) = true := by decide +kernel

/-- DM23: SAR 4, r2 -/
theorem test_sarImm : goes [0x12A4] (base |> gr 2 0x80000018)
    (fun t => t.reg 2 == 0xF8000001 && t.psw.toWord == 0x2A && t.pc == 0x102) = true := by decide +kernel

/-- DM24: SAR 0, r2 (count 0) -/
theorem test_sarImm_b : goes [0x12A0] (base |> psw 0x28 |> gr 2 0x80000018)
    (fun t => t.reg 2 == 0x80000018 && t.psw.toWord == 0x22 && t.pc == 0x102) = true := by decide +kernel

/-- DM27: SAR r1, r2, r3 -/
theorem test_sar3 : goes [0x17E1, 0x18A2] (base |> gr 1 0x1 |> gr 2 0xFFFFFFFF)
    (fun t => t.reg 3 == 0xFFFFFFFF && t.psw.toWord == 0x2A && t.pc == 0x104) = true := by decide +kernel

/-- DM35: SASF Z, r2 (true) -/
theorem test_sasf : goes [0x17E2, 0x0200] (base |> psw 0x21 |> gr 2 0x80000001)
    (fun t => t.reg 2 == 0x3 && t.pc == 0x104) = true := by decide +kernel

/-- DM36: SASF Z, r2 (false) -/
theorem test_sasf_b : goes [0x17E2, 0x0200] (base |> gr 2 0x80000001)
    (fun t => t.reg 2 == 0x2 && t.pc == 0x104) = true := by decide +kernel

/-- DM37: SETF LT, r2 (S xor OV = 1) -/
theorem test_setf : goes [0x17E6, 0x0000] (base |> psw 0x22 |> gr 2 0xFFFFFFFF)
    (fun t => t.reg 2 == 0x1 && t.pc == 0x104) = true := by decide +kernel

/-- DM30: SHL r1, r2 (count 0x21 -> 1) -/
theorem test_shl : goes [0x17E1, 0x00C0] (base |> gr 1 0x21 |> gr 2 0x80000000)
    (fun t => t.reg 2 == 0x0 && t.psw.toWord == 0x29 && t.pc == 0x104) = true := by decide +kernel

/-- DM28: SHL 4, r2 -/
theorem test_shlImm : goes [0x12C4] (base |> gr 2 0x18000001)
    (fun t => t.reg 2 == 0x80000010 && t.psw.toWord == 0x2A && t.pc == 0x102) = true := by decide +kernel

/-- DM31: SHL r1, r2, r3 (count 0) -/
theorem test_shl3 : goes [0x17E1, 0x18C2] (base |> psw 0x28 |> gr 1 0x0 |> gr 2 0x0)
    (fun t => t.reg 3 == 0x0 && t.psw.toWord == 0x21 && t.pc == 0x104) = true := by decide +kernel

/-- SHR r1, r2 -/
theorem test_shr : goes [0x17E1, 0x0080] (base |> gr 1 0x24 |> gr 2 0x80000018)
    (fun t => t.reg 2 == 0x8000001 && t.psw.toWord == 0x28 && t.pc == 0x104) = true := by decide +kernel

/-- DM32: SHR 4, r2 -/
theorem test_shrImm : goes [0x1284] (base |> gr 2 0x80000018)
    (fun t => t.reg 2 == 0x8000001 && t.psw.toWord == 0x28 && t.pc == 0x102) = true := by decide +kernel

/-- DM34: SHR r1, r2, r3 -/
theorem test_shr3 : goes [0x17E1, 0x1882] (base |> gr 1 0x1 |> gr 2 0x1)
    (fun t => t.reg 3 == 0x0 && t.psw.toWord == 0x29 && t.pc == 0x104) = true := by decide +kernel

/-- DM43: SXB r1 -/
theorem test_sxb : goes [0x00A1] (base |> gr 1 0x12345680)
    (fun t => t.reg 1 == 0xFFFFFF80 && t.pc == 0x102) = true := by decide +kernel

/-- DM44: SXH r1 -/
theorem test_sxh : goes [0x00E1] (base |> gr 1 0x12348000)
    (fun t => t.reg 1 == 0xFFFF8000 && t.pc == 0x102) = true := by decide +kernel

/-- DM45: ZXB r1 -/
theorem test_zxb : goes [0x0081] (base |> gr 1 0x123456FF)
    (fun t => t.reg 1 == 0xFF && t.pc == 0x102) = true := by decide +kernel

/-- DM46: ZXH r1 -/
theorem test_zxh : goes [0x00C1] (base |> psw 0x3F |> gr 1 0x1234FFFF)
    (fun t => t.reg 1 == 0xFFFF && t.pc == 0x102) = true := by decide +kernel

/-- DM47: SCH0L r2, r3 -/
theorem test_sch0l : goes [0x17E0, 0x1B64] (base |> gr 2 0xFFF0FFFF)
    (fun t => t.reg 3 == 0xD && t.pc == 0x104) = true := by decide +kernel

/-- DM49: SCH0L r2, r3 (not found) -/
theorem test_sch0l_b : goes [0x17E0, 0x1B64] (base |> psw 0x2E |> gr 2 0xFFFFFFFF)
    (fun t => t.reg 3 == 0x0 && t.psw.toWord == 0x21 && t.pc == 0x104) = true := by decide +kernel

/-- DM50: SCH0R r2, r3 -/
theorem test_sch0r : goes [0x17E0, 0x1B60] (base |> gr 2 0xF)
    (fun t => t.reg 3 == 0x5 && t.pc == 0x104) = true := by decide +kernel

/-- DM51: SCH0R r2, r3 (found at bit 31) -/
theorem test_sch0r_b : goes [0x17E0, 0x1B60] (base |> gr 2 0x7FFFFFFF)
    (fun t => t.reg 3 == 0x20 && t.psw.toWord == 0x28 && t.pc == 0x104) = true := by decide +kernel

/-- DM52: SCH1L r2, r3 -/
theorem test_sch1l : goes [0x17E0, 0x1B66] (base |> gr 2 0x10000)
    (fun t => t.reg 3 == 0x10 && t.pc == 0x104) = true := by decide +kernel

/-- DM54: SCH1L r2, r3 (not found) -/
theorem test_sch1l_b : goes [0x17E0, 0x1B66] (base |> gr 2 0x0)
    (fun t => t.reg 3 == 0x0 && t.psw.toWord == 0x21 && t.pc == 0x104) = true := by decide +kernel

/-- DM55: SCH1R r2, r3 -/
theorem test_sch1r : goes [0x17E0, 0x1B62] (base |> gr 2 0x10000)
    (fun t => t.reg 3 == 0x11 && t.pc == 0x104) = true := by decide +kernel

/-- DM56: SCH1R r2, r3 (found at bit 31) -/
theorem test_sch1r_b : goes [0x17E0, 0x1B62] (base |> gr 2 0x80000000)
    (fun t => t.reg 3 == 0x20 && t.psw.toWord == 0x28 && t.pc == 0x104) = true := by decide +kernel

/-- Q1: DIV r1, r2, r3 -/
theorem test_div : goes [0x17E1, 0x1AC0] (base |> gr 1 0x2 |> gr 2 0x7)
    (fun t => t.reg 2 == 0x3 && t.reg 3 == 0x1 && t.pc == 0x104) = true := by decide +kernel

/-- Q2: DIV r1, r2, r3 -/
theorem test_div_b : goes [0x17E1, 0x1AC0] (base |> gr 1 0x2 |> gr 2 0xFFFFFFF9)
    (fun t => t.reg 2 == 0xFFFFFFFD && t.reg 3 == 0xFFFFFFFF && t.psw.toWord == 0x22 && t.pc == 0x104) = true :=
      by decide +kernel

/-- Q15: DIVH r1, r2 -/
theorem test_divh2 : goes [0x1041] (base |> gr 1 0xABCD0007 |> gr 2 0x186A0)
    (fun t => t.reg 2 == 0x37CD && t.pc == 0x102) = true := by decide +kernel

/-- Q16: DIVH r1, r2 (divisor low half 0xFFFF = -1) -/
theorem test_divh2_b : goes [0x1041] (base |> gr 1 0xFFFF |> gr 2 0x80000000)
    (fun t => t.reg 2 == 0x80000000 && t.psw.toWord == 0x26 && t.pc == 0x102) = true := by decide +kernel

/-- Q18: DIVH r1, r2, r3 -/
theorem test_divh3 : goes [0x17E1, 0x1A80] (base |> gr 1 0xFFFFFFFD |> gr 2 0xA)
    (fun t => t.reg 2 == 0xFFFFFFFD && t.reg 3 == 0x1 && t.psw.toWord == 0x22 && t.pc == 0x104) = true :=
      by decide +kernel

/-- Q19: DIVHU r1, r2, r3 -/
theorem test_divhu : goes [0x17E1, 0x1A82] (base |> gr 1 0x1FFFF |> gr 2 0xFFFFFFFF)
    (fun t => t.reg 2 == 0x10001 && t.reg 3 == 0x0 && t.pc == 0x104) = true := by decide +kernel

/-- Q11: DIVU r1, r2, r3 -/
theorem test_divu : goes [0x17E1, 0x1AC2] (base |> gr 1 0x2 |> gr 2 0xFFFFFFF9)
    (fun t => t.reg 2 == 0x7FFFFFFC && t.reg 3 == 0x1 && t.pc == 0x104) = true := by decide +kernel

/-- Q9: DIVQ r1, r2, r3 (same results as DIV) -/
theorem test_divq : goes [0x17E1, 0x1AFC] (base |> gr 1 0xFFFFFFFD |> gr 2 0x64)
    (fun t => t.reg 2 == 0xFFFFFFDF && t.reg 3 == 0x1 && t.psw.toWord == 0x22 && t.pc == 0x104) = true :=
      by decide +kernel

/-- Q14: DIVQU r1, r2, r3 -/
theorem test_divqu : goes [0x17E1, 0x1AFE] (base |> gr 1 0x10 |> gr 2 0x80000000)
    (fun t => t.reg 2 == 0x8000000 && t.reg 3 == 0x0 && t.pc == 0x104) = true := by decide +kernel

/-- B1: BNE +0x10 (taken) -/
theorem test_bcond9 : goes [0x0D8A] (base |> pc 0x1000)
    (fun t => t.pc == 0x1010) = true := by decide +kernel

/-- B2: BNE +0x10 (not taken) -/
theorem test_bcond9_b : goes [0x0D8A] (base |> pc 0x1000 |> psw 0x21)
    (fun t => t.pc == 0x1002) = true := by decide +kernel

/-- B8: BNE +0x1000 (disp17, taken) -/
theorem test_bcond17 : goes [0x07EA, 0x1001] (base |> pc 0x1000)
    (fun t => t.pc == 0x2000) = true := by decide +kernel

/-- B9: BE -0x10000 (disp17, taken) -/
theorem test_bcond17_b : goes [0x07F2, 0x0001] (base |> pc 0x20000 |> psw 0x21)
    (fun t => t.pc == 0x10000) = true := by decide +kernel

/-- B12: JARL 0x100, r31 -/
theorem test_jarl22 : goes [0xFF80, 0x0100] (base |> pc 0x2000)
    (fun t => t.reg 31 == 0x2004 && t.pc == 0x2100) = true := by decide +kernel

/-- B13: JARL -0x200000, r10 (most negative disp22) -/
theorem test_jarl22_b : goes [0x57A0, 0x0000] (base |> pc 0x400000)
    (fun t => t.reg 10 == 0x400004 && t.pc == 0x200000) = true := by decide +kernel

/-- B14: JARL 0x12345678, r1 (disp32) -/
theorem test_jarl32 : goes [0x02E1, 0x5678, 0x1234] (base |> pc 0x2000)
    (fun t => t.reg 1 == 0x2006 && t.pc == 0x12347678) = true := by decide +kernel

/-- B15: JARL [r1], r3 -/
theorem test_jarlReg : goes [0xC7E1, 0x1960] (base |> pc 0x2000 |> gr 1 0x4001)
    (fun t => t.reg 3 == 0x2004 && t.pc == 0x4000) = true := by decide +kernel

/-- B16: JARL [r1], r1 (same register: old value is the target) -/
theorem test_jarlReg_b : goes [0xC7E1, 0x0960] (base |> pc 0x2000 |> gr 1 0x4000)
    (fun t => t.reg 1 == 0x2004 && t.pc == 0x4000) = true := by decide +kernel

/-- B17: JMP [r31] -/
theorem test_jmpReg : goes [0x007F] (base |> pc 0x1000 |> gr 31 0x2005)
    (fun t => t.pc == 0x2004) = true := by decide +kernel

/-- B18: JMP 0x100[r1] -/
theorem test_jmp32 : goes [0x06E1, 0x0100, 0x0000] (base |> pc 0x1000 |> gr 1 0xFFFFFF00)
    (fun t => t.pc == 0x0) = true := by decide +kernel

/-- B19: JR -4 -/
theorem test_jr22 : goes [0x07BF, 0xFFFC] (base |> pc 0x1000)
    (fun t => t.pc == 0xFFC) = true := by decide +kernel

/-- B20: JR 0x12345678 (disp32) -/
theorem test_jr32 : goes [0x02E0, 0x5678, 0x1234] (base |> pc 0x1000)
    (fun t => t.pc == 0x12346678) = true := by decide +kernel

/-- B21: LOOP r1, 0x10 (taken) -/
theorem test_loop : goes [0x06E1, 0x0011] (base |> pc 0x1020 |> gr 1 0x3)
    (fun t => t.reg 1 == 0x2 && t.psw.toWord == 0x28 && t.pc == 0x1010) = true := by decide +kernel

/-- B22: LOOP r1, 0x10 (falls through) -/
theorem test_loop_b : goes [0x06E1, 0x0011] (base |> pc 0x1020 |> gr 1 0x1)
    (fun t => t.reg 1 == 0x0 && t.psw.toWord == 0x29 && t.pc == 0x1024) = true := by decide +kernel

/-- M4: CLR1 3, 0x10[r1] -/
theorem test_clr1 : goes [0x9FC1, 0x0010] (base |> gr 1 0x2000 |> mem 0x2010 1 0xFF)
    (fun t => t.readLE 0x2010 1 == 0xF7 && t.pc == 0x104) = true := by decide +kernel

/-- M5: CLR1 r2, [r1] -/
theorem test_clr1Reg : goes [0x17E1, 0x00E4] (base |> gr 1 0x2000 |> gr 2 0x7 |> mem 0x2000 1 0x7F)
    (fun t => t.psw.toWord == 0x21 && t.readLE 0x2000 1 == 0x7F && t.pc == 0x104) = true := by decide +kernel

/-- M6: NOT1 3, 0x10[r1] -/
theorem test_not1 : goes [0x5FC1, 0x0010] (base |> gr 1 0x2000 |> mem 0x2010 1 0x8)
    (fun t => t.readLE 0x2010 1 == 0x0 && t.pc == 0x104) = true := by decide +kernel

/-- M7: NOT1 r2, [r1] -/
theorem test_not1Reg : goes [0x17E1, 0x00E2] (base |> gr 1 0x2000 |> gr 2 0x0 |> mem 0x2000 1 0x0)
    (fun t => t.psw.toWord == 0x21 && t.readLE 0x2000 1 == 0x1 && t.pc == 0x104) = true := by decide +kernel

/-- M1: SET1 3, 0x10[r1] -/
theorem test_set1 : goes [0x1FC1, 0x0010] (base |> gr 1 0x2000 |> mem 0x2010 1 0x0)
    (fun t => t.psw.toWord == 0x21 && t.readLE 0x2010 1 == 0x8 && t.pc == 0x104) = true := by decide +kernel

/-- M2: SET1 3, 0x10[r1] (already set) -/
theorem test_set1_b : goes [0x1FC1, 0x0010] (base |> psw 0x21 |> gr 1 0x2000 |> mem 0x2010 1 0x8)
    (fun t => t.psw.toWord == 0x20 && t.readLE 0x2010 1 == 0x8 && t.pc == 0x104) = true := by decide +kernel

/-- M3: SET1 r2, [r1] (bit number = r2[2:0]) -/
theorem test_set1Reg : goes [0x17E1, 0x00E0] (base |> gr 1 0x2000 |> gr 2 0xFFFFFFF9 |> mem 0x2000 1 0x80)
    (fun t => t.psw.toWord == 0x21 && t.readLE 0x2000 1 == 0x82 && t.pc == 0x104) = true := by decide +kernel

/-- M8: TST1 3, 0x10[r1] -/
theorem test_tst1 : goes [0xDFC1, 0x0010] (base |> psw 0x21 |> gr 1 0x2000 |> mem 0x2010 1 0x8)
    (fun t => t.psw.toWord == 0x20 && t.pc == 0x104) = true := by decide +kernel

/-- M9: TST1 r2, [r1] -/
theorem test_tst1Reg : goes [0x17E1, 0x00E6] (base |> psw 0x2E |> gr 1 0x2000 |> gr 2 0x4 |> mem 0x2000 1 0xEF)
    (fun t => t.psw.toWord == 0x2F && t.pc == 0x104) = true := by decide +kernel

/-- X1: CALLT 5 -/
theorem test_callt : goes [0x0205] (base |> pc 0x1000 |> psw 0x29 |> sr .ctbp 0x2000 |> mem 0x200A 2 0x120)
    (fun t => t.sys.ctpc == 0x1002 && t.sys.ctpsw == 0x9 && t.pc == 0x2120) = true := by decide +kernel

/-- X3: CAXI [r1], r2, r3 (match) -/
theorem test_caxi : goes [0x17E1, 0x18EE] (base |> gr 1 0x2000 |> gr 2 0x5 |> gr 3 0x9 |> mem 0x2000 4 0x5)
    (fun t => t.reg 3 == 0x5 && t.psw.toWord == 0x21 && t.readLE 0x2000 4 == 0x9 && t.pc == 0x104) = true :=
      by decide +kernel

/-- X4: CAXI [r1], r2, r3 (no match) -/
theorem test_caxi_b : goes [0x17E1, 0x18EE] (base |> gr 1 0x2000 |> gr 2 0x5 |> gr 3 0x9 |> mem 0x2000 4 0x7)
    (fun t => t.reg 3 == 0x7 && t.psw.toWord == 0x2A && t.readLE 0x2000 4 == 0x7 && t.pc == 0x104) = true :=
      by decide +kernel

/-- X21: CLL (not implemented on this core: RIE) -/
theorem test_cll : goes [0xFFFF, 0xF160] (base |> pc 0x2000)
    (fun t => t.sys.fepc == 0x2000 && t.sys.fepsw == 0x20 && t.psw.toWord == 0xE0 && t.sys.feic == 0x60 &&
      t.pc == 0x60) = true := by decide +kernel

/-- X2: CTRET -/
theorem test_ctret : goes [0x07E0, 0x0144] (base |> pc 0x2120 |> psw 0x40000002 |> sr .ctpc 0x1002 |> sr .ctpsw 0x9)
    (fun t => t.psw.toWord == 0x40000009 && t.pc == 0x1002) = true := by decide +kernel

/-- X6: DI -/
theorem test_di : goes [0x07E0, 0x0160] (base |> psw 0x0)
    (fun t => t.psw.toWord == 0x20 && t.pc == 0x104) = true := by decide +kernel

/-- X8: DI in user mode, MCTL.UIC=0 -/
theorem test_di_b : goes [0x07E0, 0x0160] (base |> psw 0x40000000)
    (fun t => t.sys.fepc == 0x100 && t.sys.fepsw == 0x40000000 && t.psw.toWord == 0xE0 && t.sys.feic == 0xA0 &&
      t.pc == 0xA0) = true := by decide +kernel

/-- X61: DISPOSE 4, {r29, r31} -/
theorem test_dispose : goes [0x0648, 0x0060] (base |> gr 3 0xFE8 |> mem 0xFF8 4 0xBBBBBBBB |> mem 0xFFC 4
    0xAAAAAAAA)
    (fun t => t.reg 3 == 0x1000 && t.reg 29 == 0xAAAAAAAA && t.reg 31 == 0xBBBBBBBB && t.pc == 0x104) = true :=
      by decide +kernel

/-- X62: DISPOSE 4, {r29, r31}, [r31] -/
theorem test_disposeJmp : goes [0x0648, 0x007F] (base |> gr 3 0xFE8 |> mem 0xFF8 4 0x4000 |> mem 0xFFC 4 0xAAAAAAAA)
    (fun t => t.reg 3 == 0x1000 && t.reg 29 == 0xAAAAAAAA && t.reg 31 == 0x4000 && t.pc == 0x4000) = true :=
      by decide +kernel

/-- X63: DISPOSE 0, {}, [r10] -/
theorem test_disposeJmp_b : goes [0x0640, 0x000A] (base |> gr 3 0x1000 |> gr 10 0x4001)
    (fun t => t.reg 3 == 0x1000 && t.pc == 0x4000) = true := by decide +kernel

/-- X7: EI -/
theorem test_ei : goes [0x87E0, 0x0160] (base)
    (fun t => t.psw.toWord == 0x0 && t.pc == 0x104) = true := by decide +kernel

/-- X10: EIRET (EP=0, ISPC=0) -/
theorem test_eiret : goes [0x07E0, 0x0148] (base |> pc 0x3000 |> sr .eipc 0x1235 |> sr .eipsw 0x40000001 |> ispr
    0xC)
    (fun t => t.psw.toWord == 0x40000001 && t.sys.ispr == 0x8 && t.pc == 0x1234 && t.eoi == 1) = true :=
      by decide +kernel

/-- X11: EIRET (EP=1: no end-of-interrupt) -/
theorem test_eiret_b : goes [0x07E0, 0x0148] (base |> pc 0x3000 |> psw 0x60 |> sr .eipc 0x1234 |> sr .eipsw 0x0 |>
    ispr 0xC)
    (fun t => t.psw.toWord == 0x0 && t.pc == 0x1234) = true := by decide +kernel

/-- X14: FERET (EP=0) -/
theorem test_feret : goes [0x07E0, 0x014A] (base |> pc 0x3000 |> psw 0xA0 |> sr .fepc 0x2000 |> sr .fepsw 0x8021 |>
    ispr 0x1)
    (fun t => t.psw.toWord == 0x8021 && t.pc == 0x2000 && t.eoi == 1) = true := by decide +kernel

/-- PV5: FERET in user mode -/
theorem test_feret_b : goes [0x07E0, 0x014A] (base |> pc 0x1000 |> psw 0x40000000)
    (fun t => t.sys.fepc == 0x1000 && t.sys.fepsw == 0x40000000 && t.psw.toWord == 0xE0 && t.sys.feic == 0xA0 &&
      t.pc == 0xA0) = true := by decide +kernel

/-- X15: FETRAP 1 -/
theorem test_fetrap : goes [0x0840] (base |> pc 0x1000 |> psw 0x40000000)
    (fun t => t.sys.fepc == 0x1002 && t.sys.fepsw == 0x40000000 && t.psw.toWord == 0xE0 && t.sys.feic == 0x31 &&
      t.pc == 0x30) = true := by decide +kernel

/-- X24: HALT -/
theorem test_halt : goes [0x07E0, 0x0120] (base |> psw 0x0)
    (fun t => t.pc == 0x104 && t.run == .halted) = true := by decide +kernel

/-- X25: HALT in user mode -/
theorem test_halt_b : goes [0x07E0, 0x0120] (base |> psw 0x40000000)
    (fun t => t.sys.fepc == 0x100 && t.sys.fepsw == 0x40000000 && t.psw.toWord == 0xE0 && t.sys.feic == 0xA0 &&
      t.pc == 0xA0) = true := by decide +kernel

/-- X52: LDL.W [r1], r3 -/
theorem test_ldlW : goes [0x07E1, 0x1B78] (base |> gr 1 0x2000 |> mem 0x2000 4 0x13572468)
    (fun t => t.reg 3 == 0x13572468 && t.pc == 0x104) = true := by decide +kernel

/-- X31: LDSR r1, 5 (PSW, supervisor) -/
theorem test_ldsr : goes [0x2FE1, 0x0020] (base |> gr 1 0xFFFFFFFF)
    (fun t => t.psw.toWord == 0x400080FF && t.pc == 0x104) = true := by decide +kernel

/-- X32: LDSR r1, 5 (PSW, user mode: flags only) -/
theorem test_ldsr_b : goes [0x2FE1, 0x0020] (base |> psw 0x40000000 |> gr 1 0xBFFFFFFF)
    (fun t => t.psw.toWord == 0x4000001F && t.pc == 0x104) = true := by decide +kernel

/-- X27: NOP -/
theorem test_nop : goes [0x0000] (base)
    (fun t => t.pc == 0x102) = true := by decide +kernel

/-- W1: NOP (EIINT channel 5, priority 3 pending; direct vector) -/
theorem test_nop_b : goes [0x0000] (base |> pc 0x1000 |> psw 0x0 |> eiint [⟨5, 3⟩])
    (fun t => t.sys.eipc == 0x1000 && t.sys.eipsw == 0x0 && t.psw.toWord == 0x20 && t.sys.eiic == 0x1005 &&
      t.sys.ispr == 0x8 && t.pc == 0x130 && t.req.eiint == []) = true := by decide +kernel

/-- X67: POPSP r20-r22 -/
theorem test_popsp : goes [0x67F4, 0xB160] (base |> gr 3 0xFF4 |> mem 0xFF4 4 0x22 |> mem 0xFF8 4 0x21 |> mem 0xFFC
    4 0x20)
    (fun t => t.reg 3 == 0x1000 && t.reg 20 == 0x20 && t.reg 21 == 0x21 && t.reg 22 == 0x22 && t.pc == 0x104) = true
      := by decide +kernel

/-- X68: POPSP r2-r4 (word for r3 dropped) -/
theorem test_popsp_b : goes [0x67E2, 0x2160] (base |> gr 3 0xFF4 |> mem 0xFF4 4 0x44 |> mem 0xFF8 4 0x33 |> mem
    0xFFC 4 0x22)
    (fun t => t.reg 2 == 0x22 && t.reg 3 == 0x1000 && t.reg 4 == 0x44 && t.pc == 0x104) = true := by decide +kernel

/-- X54: PREPARE {r29, r31}, 4 -/
theorem test_prepare : goes [0x0788, 0x0061] (base |> gr 3 0x1000 |> gr 29 0xAAAAAAAA |> gr 31 0xBBBBBBBB)
    (fun t => t.reg 3 == 0xFE8 && t.readLE 0xFFC 4 == 0xAAAAAAAA && t.readLE 0xFF8 4 == 0xBBBBBBBB && t.pc == 0x104)
      = true := by decide +kernel

/-- X59: PREPARE {r30}, 0 (sp = 0x1002: stores use sp & ~3) -/
theorem test_prepare_b : goes [0x0781, 0x0001] (base |> gr 3 0x1002 |> gr 30 0x30303030)
    (fun t => t.reg 3 == 0xFFE && t.readLE 0xFFC 4 == 0x30303030 && t.pc == 0x104) = true := by decide +kernel

/-- X55: PREPARE {r29, r31}, 4, sp -/
theorem test_prepareSp : goes [0x0788, 0x0063] (base |> gr 3 0x1000 |> gr 29 0xAAAAAAAA |> gr 31 0xBBBBBBBB)
    (fun t => t.reg 3 == 0xFE8 && t.reg 30 == 0xFE8 && t.readLE 0xFFC 4 == 0xAAAAAAAA && t.readLE 0xFF8
      4 == 0xBBBBBBBB && t.pc == 0x104) = true := by decide +kernel

/-- X56: PREPARE {r20}, 0, 0x8000 (sign-extended) -/
theorem test_prepareImmLo : goes [0x0780, 0x080B, 0x8000] (base |> gr 3 0x1000 |> gr 20 0x20202020)
    (fun t => t.reg 3 == 0xFFC && t.reg 30 == 0xFFFF8000 && t.readLE 0xFFC 4 == 0x20202020 && t.pc == 0x106) = true
      := by decide +kernel

/-- X57: PREPARE {r20}, 0, 0x8000 (shifted) -/
theorem test_prepareImmHi : goes [0x0780, 0x0813, 0x8000] (base |> gr 3 0x1000 |> gr 20 0x20202020)
    (fun t => t.reg 3 == 0xFFC && t.reg 30 == 0x80000000 && t.readLE 0xFFC 4 == 0x20202020 && t.pc == 0x106) = true
      := by decide +kernel

/-- X58: PREPARE {}, 1, 0x12345678 -/
theorem test_prepareImm32 : goes [0x0782, 0x001B, 0x5678, 0x1234] (base |> gr 3 0x1000)
    (fun t => t.reg 3 == 0xFFC && t.reg 30 == 0x12345678 && t.pc == 0x108) = true := by decide +kernel

/-- X64: PUSHSP r20-r22 -/
theorem test_pushsp : goes [0x47F4, 0xB160] (base |> gr 3 0x1000 |> gr 20 0x20 |> gr 21 0x21 |> gr 22 0x22)
    (fun t => t.reg 3 == 0xFF4 && t.readLE 0xFFC 4 == 0x20 && t.readLE 0xFF8 4 == 0x21 && t.readLE 0xFF4 4 == 0x22
      && t.pc == 0x104) = true := by decide +kernel

/-- X66: PUSHSP r3-r3 (pushes the old sp) -/
theorem test_pushsp_b : goes [0x47E3, 0x1960] (base |> gr 3 0x1000)
    (fun t => t.reg 3 == 0xFFC && t.readLE 0xFFC 4 == 0x1000 && t.pc == 0x104) = true := by decide +kernel

/-- X19: RIE -/
theorem test_rie : goes [0x0040] (base |> pc 0x2000)
    (fun t => t.sys.fepc == 0x2000 && t.sys.fepsw == 0x20 && t.psw.toWord == 0xE0 && t.sys.feic == 0x60 &&
      t.pc == 0x60) = true := by decide +kernel

/-- X20: RIE 0, 0 -/
theorem test_rieImm : goes [0x07F0, 0x0000] (base |> pc 0x2000 |> psw 0x40008000 |> sr .ebase 0x20000)
    (fun t => t.sys.fepc == 0x2000 && t.sys.fepsw == 0x40008000 && t.psw.toWord == 0x80E0 && t.sys.feic == 0x60 &&
      t.pc == 0x20060) = true := by decide +kernel

/-- X26: SNOOZE -/
theorem test_snooze : goes [0x0FE0, 0x0120] (base |> psw 0x40000000)
    (fun t => t.pc == 0x104 && t.run == .snoozing 0) = true := by decide +kernel

/-- X53: STC.W r3, [r1] -/
theorem test_stcW : goes [0x07E1, 0x1B7A] (base |> gr 1 0x2000 |> gr 3 0x13572468)
    (fun t => t.readLE 0x2000 4 == 0x13572468 && t.pc == 0x104) = true := by decide +kernel

/-- X42: STSR 5, r2 (PSW, user mode) -/
theorem test_stsr : goes [0x17E5, 0x0040] (base |> psw 0x4000001F)
    (fun t => t.reg 2 == 0x4000001F && t.pc == 0x104) = true := by decide +kernel

/-- X43: STSR 0, r2, 2 (HTCFG0; PEID parameter = 1) -/
theorem test_stsr_b : goes [0x17E0, 0x1040] (base)
    (fun t => t.reg 2 == 0x18000 && t.pc == 0x104) = true := by decide +kernel

/-- X50: SWITCH r1 -/
theorem test_switch : goes [0x0041] (base |> pc 0x1000 |> gr 1 0x2 |> mem 0x1006 2 0x10)
    (fun t => t.pc == 0x1022) = true := by decide +kernel

/-- X51: SWITCH r1 (negative entry) -/
theorem test_switch_b : goes [0x0041] (base |> pc 0x1000 |> gr 1 0x0 |> mem 0x1002 2 0xFFF0)
    (fun t => t.pc == 0xFE2) = true := by decide +kernel

/-- SYNCE -/
theorem test_synce : goes [0x001D] (base)
    (fun t => t.pc == 0x102) = true := by decide +kernel

/-- SYNCI -/
theorem test_synci : goes [0x001C] (base)
    (fun t => t.pc == 0x102) = true := by decide +kernel

/-- X28: SYNCM -/
theorem test_syncm : goes [0x001E] (base)
    (fun t => t.pc == 0x102) = true := by decide +kernel

/-- SYNCP -/
theorem test_syncp : goes [0x001F] (base)
    (fun t => t.pc == 0x102) = true := by decide +kernel

/-- X22: SYSCALL 0x25 -/
theorem test_syscall : goes [0xD7E5, 0x0960] (base |> pc 0x1000 |> psw 0x40000000 |> sr .scbp 0x8000 |> sr .sccfg
    0x3F |> mem 0x8094 4 0x400)
    (fun t => t.sys.eipc == 0x1004 && t.sys.eipsw == 0x40000000 && t.psw.toWord == 0x60 && t.sys.eiic == 0x8025 &&
      t.pc == 0x8400) = true := by decide +kernel

/-- X23: SYSCALL 0x40 (vector8 > SIZE: entry 0) -/
theorem test_syscall_b : goes [0xD7E0, 0x1160] (base |> pc 0x1000 |> psw 0x0 |> sr .scbp 0x8000 |> sr .sccfg 0x3F |>
    mem 0x8000 4 0x200 |> mem 0x8100 4 0x999)
    (fun t => t.sys.eipc == 0x1004 && t.sys.eipsw == 0x0 && t.psw.toWord == 0x60 && t.sys.eiic == 0x8040 &&
      t.pc == 0x8200) = true := by decide +kernel

/-- X17: TRAP 0x11 -/
theorem test_trap : goes [0x07F1, 0x0100] (base |> pc 0x1000 |> psw 0x1)
    (fun t => t.sys.eipc == 0x1004 && t.sys.eipsw == 0x1 && t.psw.toWord == 0x61 && t.sys.eiic == 0x51 &&
      t.pc == 0x50) = true := by decide +kernel

/-- X18: TRAP 0 (user mode, NP kept) -/
theorem test_trap_b : goes [0x07E0, 0x0100] (base |> pc 0x1000 |> psw 0x40000080)
    (fun t => t.sys.eipc == 0x1004 && t.sys.eipsw == 0x40000080 && t.psw.toWord == 0xE0 && t.sys.eiic == 0x40 &&
      t.pc == 0x40) = true := by decide +kernel

/-- X29: CACHE 0, [r1] -/
theorem test_cache : goes [0xE7E1, 0x0160] (base |> gr 1 0x12345678)
    (fun t => t.pc == 0x104) = true := by decide +kernel

/-- X30: PREF 0, [r1] -/
theorem test_pref : goes [0xDFE1, 0x0160] (base |> gr 1 0x12345678)
    (fun t => t.pc == 0x104) = true := by decide +kernel

/-! ### Interrupts, HALT and undefined patterns -/

/-- W3: NOP (same; PSW.EBV=1, EBASE=0x00020000) -/
theorem test_machine_W3 : goes [0x0000] (base |> pc 0x1000 |> psw 0x8000 |> sr .ebase 0x20000 |> eiint [⟨5, 3⟩])
    (fun t => t.sys.eipc == 0x1000 && t.sys.eipsw == 0x8000 && t.psw.toWord == 0x8020 && t.sys.eiic == 0x1005 &&
      t.sys.ispr == 0x8 && t.pc == 0x20130 && t.req.eiint == []) = true := by decide +kernel

/-- W4: NOP (same; TABLE_METHOD(5), INTBP=0x4000) -/
theorem test_machine_W4 : goes [0x0000] (base |> pc 0x1000 |> psw 0x0 |> sr .intbp 0x4000 |> mem 0x4014 4 0x5000 |>
    eiint [⟨5, 3⟩] |> tables [5])
    (fun t => t.sys.eipc == 0x1000 && t.sys.eipsw == 0x0 && t.psw.toWord == 0x20 && t.sys.eiic == 0x1005 &&
      t.sys.ispr == 0x8 && t.pc == 0x5000 && t.req.eiint == []) = true := by decide +kernel

/-- W10: NOP (ISPR.ISP2=1: priority 3 masked) -/
theorem test_machine_W10 : goes [0x0000] (base |> pc 0x1000 |> psw 0x0 |> ispr 0x4 |> eiint [⟨5, 3⟩])
    (fun t => t.pc == 0x1002) = true := by decide +kernel

/-- W13: NOP (three requests: lowest priority number, then lowest channel) -/
theorem test_machine_W13 : goes [0x0000] (base |> pc 0x1000 |> psw 0x0 |> eiint [⟨7, 2⟩, ⟨4, 2⟩, ⟨1, 5⟩])
    (fun t => t.sys.eipc == 0x1000 && t.sys.eipsw == 0x0 && t.psw.toWord == 0x20 && t.sys.eiic == 0x1004 &&
      t.sys.ispr == 0x4 && t.pc == 0x120 && t.req.eiint == [⟨7, 2⟩, ⟨1, 5⟩]) = true := by decide +kernel

/-- W14: NOP (INTCFG.ISPC=1: ISPR not updated) -/
theorem test_machine_W14 : goes [0x0000] (base |> pc 0x1000 |> psw 0x0 |> sr .intcfg 0x1 |> eiint [⟨5, 3⟩])
    (fun t => t.sys.eipc == 0x1000 && t.sys.eipsw == 0x0 && t.psw.toWord == 0x20 && t.sys.eiic == 0x1005 &&
      t.pc == 0x130 && t.req.eiint == []) = true := by decide +kernel

/-- W15: NOP (FEINT pending, NP=0) -/
theorem test_machine_W15 : goes [0x0000] (base |> pc 0x1000 |> req ⟨false, false, true, none, []⟩)
    (fun t => t.sys.fepc == 0x1000 && t.sys.fepsw == 0x20 && t.psw.toWord == 0xA0 && t.sys.feic == 0xF0 &&
      t.pc == 0xF0 && t.req.feint == false) = true := by decide +kernel

/-- W18: NOP (SYSERR request code 0x10; EBV=1 is cleared, RBASE used) -/
theorem test_machine_W18 : goes [0x0000] (base |> pc 0x1000 |> psw 0x40008000 |> sr .ebase 0x20000 |> rbase 0x10000
    |> req ⟨false, false, false, some 0, []⟩)
    (fun t => t.sys.fepc == 0x1000 && t.sys.fepsw == 0x40008000 && t.psw.toWord == 0xE0 && t.sys.feic == 0x10 &&
      t.pc == 0x10010 && t.req.syserr == none) = true := by decide +kernel

/-- W19: NOP (FENMI, SYSERR, FEINT, EIINT all pending) -/
theorem test_machine_W19 : goes [0x0000] (base |> pc 0x1000 |> psw 0x0 |> req ⟨false, true, true, some 0, [⟨5, 3⟩]⟩)
    (fun t => t.sys.fepc == 0x1000 && t.sys.fepsw == 0x0 && t.psw.toWord == 0xA0 && t.sys.feic == 0xE0 &&
      t.pc == 0xE0 && t.req.fenmi == false) = true := by decide +kernel

/-- H1: (halted; no request) -/
theorem test_machine_H1 : goes [0x0000] (base |> pc 0x1004 |> psw 0x0 |> run .halted)
    (fun t => t.pc == 0x1004 && t.run == .halted) = true := by decide +kernel

/-- H2: (halted; EIINT (0,0) pending, PSW.ID=1: released, not acknowledged, next instruction NOP runs) -/
theorem test_machine_H2 : goes [0x0000] (base |> pc 0x1004 |> run .halted |> eiint [⟨0, 0⟩])
    (fun t => t.pc == 0x1006 && t.run == .running) = true := by decide +kernel

/-- H3: (halted; EIINT (0,0) pending, PSW.ID=0: released and acknowledged in the same step) -/
theorem test_machine_H3 : goes [0x0000] (base |> pc 0x1004 |> psw 0x0 |> run .halted |> eiint [⟨0, 0⟩])
    (fun t => t.sys.eipc == 0x1004 && t.sys.eipsw == 0x0 && t.psw.toWord == 0x20 && t.sys.eiic == 0x1000 &&
      t.sys.ispr == 0x1 && t.pc == 0x100 && t.run == .running && t.req.eiint == []) = true := by decide +kernel

/-- PV6: undefined opcode in user mode: RIE, not PIE -/
theorem test_machine_PV6 : goes [0x07E0, 0x0400] (base |> pc 0x1000 |> psw 0x40000000)
    (fun t => t.sys.fepc == 0x1000 && t.sys.fepsw == 0x40000000 && t.psw.toWord == 0xE0 && t.sys.feic == 0x60 &&
      t.pc == 0x60) = true := by decide +kernel

/-! ### For every obligation with hypotheses, what meets them

One theorem per obligation (several where its clauses exclude one another), at boundary values where it has ranges. -/

/-- The outcome is a next state. -/
def isNext (r : Result) : Bool :=
  match r with
  | .next _ => true
  | _ => false

theorem next_of {r : Result} (h : isNext r = true) : ∃ t, r = .next t := by
  cases r with
  | next t => exact ⟨t, rfl⟩
  | _ => cases h

/-- User mode, the flags clear. -/
def user : State := base |> psw 0x40000000

/-- User mode with an area that permits reads and executes at 1000H to 1FFFH and nothing elsewhere; the first
halfwords there are those of ST.B r2, 0[r1] with r1 = 2000H. -/
def guarded : State := placed [0x1741, 0x0000] (user |> mpuU |> pc 0x1000 |> gr 1 0x2000 |> gr 2 0x55)

/-- Registers that address memory: r1 and ep 2000H, sp 1000H, r4 an odd address. -/
def addressed : State := base |> gr 1 0x2000 |> gr 30 0x2000 |> gr 3 0x1000 |> gr 4 0x2001 |> gr 2 7

theorem test_meets_DecodeOfEncode :
    (Instr.fetrap 15).wellFormed = true ∧ (Instr.cache 0x7E 30).wellFormed = true ∧
      (Instr.prepareImm32 31 0xFFF 0xFFFFFFFF).wellFormed = true := by
  decide

theorem test_meets_EncodeOfDecode :
    decode [0x0A, 0x5F, 0xFC, 0xFF, 0x7F] = .ok (.ldB16 0xFFFC 10 11, [0x7F]) := by
  rfl

theorem test_meets_StepKeepsLegal : guarded.legal = true ∧ ∃ t, step guarded = .next t :=
  ⟨by decide +kernel, next_of (by decide +kernel)⟩

theorem test_meets_ResetLegal : Memory.wf [(0, 1), (0xFFFFFFFF, 0xFF)] = true := by decide

theorem test_meets_ResetInputResets :
    ({ guarded with req := { Requests.none with reset := true }, run := .halted } : State).req.reset = true := by
  decide +kernel

theorem test_meets_StepRunsDecodedInstruction :
    RunsNext guarded ∧ Fetchable guarded 4 ∧ decode (guarded.codeBytes 4) = .ok (.stB16 0 1 2, []) :=
  ⟨by unfold RunsNext NothingToAcknowledge; decide +kernel, by unfold Fetchable; decide +kernel, by decide +kernel⟩

/-- A request that PMR masks, one that ISPR masks, a FEINT request with NP = 1, a request of a channel the product does
not have, and a system error of a code it does not report are not to be acknowledged. -/
theorem test_meets_RunsNext_masked :
    RunsNext { (placed [0x0000] (base |> psw 0 |> sr .pmr 0x80 |> ispr 0x08)) with
      req := { Requests.none with eiint := [⟨5, 7⟩, ⟨511, 3⟩] } } ∧
    RunsNext { (placed [0x0000] (base |> psw 0x80)) with
      req := { Requests.none with feint := true, eiint := [⟨0, 0⟩] } } :=
  ⟨by unfold RunsNext NothingToAcknowledge; decide +kernel, by unfold RunsNext NothingToAcknowledge; decide +kernel⟩

theorem test_meets_RunsNext_absent :
    RunsNext { (placed [0x0000] (base |> psw 0)) with
      product := { product with numEiint := 16, syserrCodes := [0, 1] }
      req := { Requests.none with syserr := some 2, eiint := [⟨16, 0⟩] } } := by
  unfold RunsNext NothingToAcknowledge
  decide +kernel

/-- The product's patterns: one of four bytes for coprocessor 2 after one for coprocessor 1 that matches nothing else,
and one of a single halfword for coprocessor 0. -/
def coprocessors : Product :=
  { product with copro := [⟨0xFFFFFFFF, 0xFFFFFFFF, 1⟩, ⟨0x0FFF07E0, 0x045807E0, 2⟩, ⟨0xFFFFFFFF, 0x00000001, 0⟩] }

/-- The second halfword that the patterns of `UndefinedPatternRaisesReserved` are matched with. -/
def second (s : State) : Half :=
  if instrLength (s.halfAt s.pc) (s.halfAt (s.pc + 2)) = 2 then 0 else s.halfAt (s.pc + 2)

/-- The halfwords `hs` are no instruction, and match exactly the patterns `ps` of `coprocessors`. -/
def Undefined (hs : List Half) (ps : List CoproPattern) : Prop :=
  let s := { placed hs base with product := coprocessors }
  RunsNext s ∧ Fetchable s (2 * hs.length) ∧ decode (s.codeBytes (2 * hs.length)) = .error .undefined ∧
    s.product.copro.filter (fun p => (second s ++ s.halfAt s.pc : Word) &&& p.mask = p.value &&& p.mask) = ps

/-- A pattern of four bytes that is the second of the product's, the pattern 0001H of one halfword that is its third,
and a pattern that matches none of them. -/
theorem test_meets_UndefinedPatternRaisesReserved :
    Undefined [0x07E0, 0x0458] [⟨0x0FFF07E0, 0x045807E0, 2⟩] ∧ Undefined [0x0001] [⟨0xFFFFFFFF, 0x00000001, 0⟩] ∧
    Undefined [0x07E0, 0x0456] [] ∧ coprocessors.copro[1]? = some ⟨0x0FFF07E0, 0x045807E0, 2⟩ := by
  refine ⟨?_, ?_, ?_, by decide⟩ <;>
    (unfold Undefined RunsNext NothingToAcknowledge Fetchable; decide +kernel)

/-- The last byte alone of MOV imm32 lies outside the area that permits its execution; and in memory with a fetch error,
every byte being permitted. -/
theorem test_meets_ExecutionProtectionRaisesMip :
    (let s := placed [0x0621, 0x5678, 0x1234] (user |> mpuU |> pc 0x1FFC)
     RunsNext s ∧ 6 = instrLength (s.halfAt s.pc) (s.halfAt (s.pc + 2)) ∧ s.plainAll s.pc 6 = true ∧
       (∀ e ∈ s.stale, 6 ≤ (e.addr - s.pc).toNat) ∧ s.mpuAllowsAll s.psw.um .execute s.pc 6 = false) ∧
    (let s := { placed [0x0621, 0x5678, 0x1234] base with
       product := { product with memMap := [⟨0x105, 0x10F, .plain, some 0xF⟩] } }
     RunsNext s ∧ 6 = instrLength (s.halfAt s.pc) (s.halfAt (s.pc + 2)) ∧ s.plainAll s.pc 6 = true ∧
       (∀ e ∈ s.stale, 6 ≤ (e.addr - s.pc).toNat) ∧ s.mpuAllowsAll s.psw.um .execute s.pc 6 = true ∧
       FetchErrorAt s (s.pc + BitVec.ofNat 32 5) 0xF ∧
       ∀ j < 5, ∀ d, ¬ FetchErrorAt s (s.pc + BitVec.ofNat 32 j) d) := by
  refine ⟨⟨?_, ?_⟩, ?_, ?_⟩ <;> (try unfold RunsNext NothingToAcknowledge) <;> decide +kernel

/-- A device and an unbacked range, the byte at the PC stored and not read back: outside the area that permits
execution; and with a fetch error at the second byte, the eight bytes being permitted. -/
theorem test_meets_ExecutionProtectionRaisesMip_elsewhere : ∀ k ∈ [RegionKind.device, .unbacked (some 1)],
    (let s := { (user |> mpuU |> pc 0x2000) with
       stale := [⟨0x2000, 0, false⟩], product := { product with memMap := [⟨0x2000, 0x2010, k, none⟩] } }
     RunsNext s ∧ s.mpuAllowsAll s.psw.um .execute s.pc 2 = false) ∧
    (let s := { (user |> mpuU |> pc 0x1FF8) with
       stale := [⟨0x1FF8, 0, false⟩], product := { product with memMap := [⟨0x1FF9, 0x2010, k, some 0xF⟩] } }
     RunsNext s ∧ s.mpuAllowsAll s.psw.um .execute s.pc 8 = true ∧ FetchErrorAt s (s.pc + BitVec.ofNat 32 1) 0xF ∧
       ∀ j < 1, ∀ d, ¬ FetchErrorAt s (s.pc + BitVec.ofNat 32 j) d) := by
  intro k hk
  fin_cases hk <;> refine ⟨⟨?_, ?_⟩, ?_, ?_⟩ <;> (try unfold RunsNext NothingToAcknowledge) <;> decide +kernel

theorem test_meets_FeLevelRequestsAcknowledged :
    (∃ s : State, s.req.reset = false ∧ s.req.fenmi = true) ∧
    (∃ s : State, s.req.reset = false ∧ s.req.fenmi = false ∧ SyserrStands s 0xF) ∧
    ∃ s : State, s.req.reset = false ∧ s.req.fenmi = false ∧ (∀ c, ¬ SyserrStands s c) ∧ s.req.feint = true ∧
      s.psw.np = false :=
  ⟨⟨{ base with req := ⟨false, true, true, some 0, [⟨5, 3⟩]⟩ }, rfl, rfl⟩,
    ⟨{ base with req := ⟨false, false, true, some 0xF, []⟩ }, by decide +kernel⟩,
    { base with req := ⟨false, false, true, none, [⟨5, 3⟩]⟩ }, by decide +kernel⟩

/-- Two requests of one priority: the lower channel, the table method being set for another; and one whose channel is
set to the table method where RINT is 1, the last the product has. -/
theorem test_meets_EiintDirectVector :
    (let s := base |> psw 0 |> tables [0] |> eiint [⟨9, 3⟩, ⟨5, 3⟩, ⟨0, 7⟩]
     NextEiint s ⟨5, 3⟩ ∧ (5 : BitVec 9) ∉ s.product.tableChannels) ∧
    (let s := base |> psw 0 |> rbase 1 |> tables [511] |> eiint [⟨511, 7⟩]
     NextEiint s ⟨511, 7⟩ ∧ s.psw.ebv = false ∧ s.product.rint = true) := by
  refine ⟨⟨?_, ?_⟩, ?_, ?_⟩ <;> (try unfold NextEiint Unmasked) <;> decide +kernel

/-- The table read permitted in supervisor mode; and refused there. -/
theorem test_meets_EiintTableReference :
    (let s := base |> psw 0 |> sr .intbp 0x8000 |> tables [511] |> eiint [⟨511, 0⟩]
     NextEiint s ⟨511, 0⟩ ∧ 511 ∈ s.product.tableChannels ∧ s.psw.ebv = false ∧ s.product.rint = false ∧
       CanRead s false 0x87FC 4) ∧
    (let s := base |> psw 0 |> mpuS |> sr .intbp 0x8000 |> tables [1, 0] |> eiint [⟨0, 7⟩]
     NextEiint s ⟨0, 7⟩ ∧ 0 ∈ s.product.tableChannels ∧ s.psw.ebv = false ∧ s.product.rint = false ∧
       s.maeApplies 0x8000 4 = false ∧ misaligned 0x8000 4 = false ∧ s.mpuAllowsAll false .read 0x8000 4 = false) := by
  refine ⟨⟨?_, ?_⟩, ?_, ?_⟩ <;> (try unfold NextEiint Unmasked) <;> (try unfold CanRead) <;> decide +kernel

/-- A request; none but of a channel the product does not have; and the reset input. -/
theorem test_meets_HaltRelease :
    (∃ s : State, s.run = .halted ∧ s.req.reset = false ∧ RequestStands s) ∧
    (∃ s : State, s.run = .halted ∧ s.req.reset = false ∧ ¬ RequestStands s) ∧
    ∃ s : State, s.run = .halted ∧ s.req.reset = true :=
  ⟨⟨{ base with run := .halted, req := { Requests.none with eiint := [⟨1, 1⟩] } }, by decide +kernel⟩,
    ⟨{ base with run := .halted, product := { product with numEiint := 511 }
                 req := { Requests.none with eiint := [⟨511, 1⟩] } }, by decide +kernel⟩,
    { base with run := .halted, req := { Requests.none with reset := true } }, rfl, rfl⟩

theorem test_meets_SnoozeRelease :
    (∃ s : State, s.req.reset = false ∧ s.run = .snoozing 0) ∧
    (∃ s : State, s.req.reset = false ∧ s.run = .snoozing 2 ∧ RequestStands s) ∧
    ∃ s : State, s.req.reset = false ∧ s.run = .snoozing (1 + 1) ∧ ¬ RequestStands s :=
  ⟨⟨{ base with run := .snoozing 0 }, rfl, rfl⟩,
    ⟨{ base with run := .snoozing 2, req := { Requests.none with syserr := some 3 } }, by decide +kernel⟩,
    { base with run := .snoozing 2 }, by decide +kernel⟩

/-- `i` makes a data access at `s`, and it may be read. -/
def Readable (s : State) (i : Instr) : Prop := ∃ x, s.dataAccess i = some x ∧ CanRead s x.um x.addr x.size

/-- `i` makes a data access at `s`, and it may be written. -/
def Writable (s : State) (i : Instr) : Prop := ∃ x, s.dataAccess i = some x ∧ CanWrite s x.addr x.size

/-- Every load; the largest and the smallest displacements among them, and a misaligned word with MCTL.MA = 1. -/
theorem test_meets_LoadsComplete :
    let s := addressed |> sr .mctl 2
    Readable s (.ldB16 0xFFFF 1 5) ∧ Readable s (.ldB23 0x3FFFFF 1 5) ∧ Readable s (.ldBu16 0x8000 1 5) ∧
    Readable s (.ldBu23 0 1 5) ∧ Readable s (.ldH16 1 1 5) ∧ Readable s (.ldH23 1 1 5) ∧ Readable s (.ldHu16 1 1 5) ∧
    Readable s (.ldHu23 1 1 5) ∧ Readable s (.ldW16 1 4 5) ∧ Readable s (.ldW23 2 1 5) ∧ Readable s (.ldlW 1 5) ∧
    Readable s (.sldB 127 5) ∧ Readable s (.sldBu 15 5) ∧ Readable s (.sldH 127 5) ∧ Readable s (.sldHu 15 5) ∧
    Readable s (.sldW 63 5) ∧ Readable s (.ldDw 4 1 30) := by
  refine ⟨?_, ?_, ?_, ?_, ?_, ?_, ?_, ?_, ?_, ?_, ?_, ?_, ?_, ?_, ?_, ?_, ?_⟩ <;>
    exact ⟨_, rfl, by unfold CanRead; decide +kernel⟩

/-- Every store. -/
theorem test_meets_StoresComplete :
    let s := addressed |> sr .mctl 2
    Writable s (.stB16 0xFFFF 1 5) ∧ Writable s (.stB23 0x3FFFFF 1 5) ∧ Writable s (.stH16 1 1 5) ∧
    Writable s (.stH23 1 1 5) ∧ Writable s (.stW16 1 4 5) ∧ Writable s (.stW23 2 1 5) ∧ Writable s (.stcW 1 5) ∧
    Writable s (.sstB 127 5) ∧ Writable s (.sstH 127 5) ∧ Writable s (.sstW 63 5) ∧ Writable s (.stDw 4 1 30) := by
  refine ⟨?_, ?_, ?_, ?_, ?_, ?_, ?_, ?_, ?_, ?_, ?_⟩ <;> exact ⟨_, rfl, by unfold CanWrite; decide +kernel⟩

/-- The halfwords `hs` at the program counter of `base` are refused with `e` where nothing is to be acknowledged. -/
def Prohibited (hs : List Half) (e : DecodeError) : Prop :=
  let s := placed hs base
  RunsNext s ∧ Fetchable s (2 * hs.length) ∧ decode (s.codeBytes (2 * hs.length)) = .error e

theorem test_meets_ProhibitedOperandsRefused :
    (31 : Reg).getLsbD 0 = true ∧ base.psw.um = false ∧
    Prohibited [0x07E5, 0x0001] .prohibitedBranchAlways17 ∧ Prohibited [0x06E0, 0x0011] .prohibitedLoopR0 ∧
    Prohibited [0x8040] .prohibitedDivhR0 ∧ Prohibited [0xC7E1, 0x0160] .prohibitedJarlR0 := by
  refine ⟨by decide, by decide +kernel, ?_, ?_, ?_, ?_⟩ <;>
    (unfold Prohibited RunsNext NothingToAcknowledge Fetchable; decide +kernel)

/-- `i` makes a data access at `s` that raises MAE. -/
def Misaligned (s : State) (i : Instr) : Prop := ∃ x, s.dataAccess i = some x ∧ s.maeApplies x.addr x.size = true

theorem test_meets_MisalignedAccessRaises :
    Misaligned addressed (.ldH16 0 4 5) ∧ Misaligned addressed (.ldDw 0 4 6) ∧ Misaligned addressed (.stW16 1 1 5) ∧
    Misaligned addressed (.caxi 4 2 5) ∧ Misaligned addressed (.stcW 4 5) := by
  refine ⟨?_, ?_, ?_, ?_, ?_⟩ <;> exact ⟨_, rfl, by decide +kernel⟩

theorem test_meets_AlignmentRule :
    addressed.legal = true ∧ (∃ x, addressed.dataAccess (.switch 4) = some x) ∧
    (∃ x, addressed.dataAccess (.callt 63) = some x) ∧ ∃ x, addressed.dataAccess (.syscall 255) = some x :=
  ⟨by decide +kernel, ⟨_, rfl⟩, ⟨_, rfl⟩, ⟨_, rfl⟩⟩

/-- `i` makes a data access at `s` that passes the alignment check and is refused. -/
def Refused (s : State) (i : Instr) : Prop :=
  ∃ x, s.dataAccess i = some x ∧ s.maeApplies x.addr x.size = false ∧
    ((x.reads && !s.mpuAllowsAll x.um .read x.addr x.size) ||
      (x.writes && !s.mpuAllowsAll x.um .write x.addr x.size)) = true

/-- A write and a read-modify-write where only reads are permitted, a read where nothing is, and a supervisor-mode read
of a table. -/
theorem test_meets_RefusedAccessRaises :
    Refused guarded (.stB16 0 1 2) ∧ Refused guarded (.set1 7 0 1) ∧ Refused guarded (.caxi 1 2 3) ∧
    Refused guarded (.ldW16 0 0 5) ∧ Refused (base |> mpuS) (.syscall 0) := by
  refine ⟨?_, ?_, ?_, ?_, ?_⟩ <;> exact ⟨_, rfl, by decide +kernel, by decide +kernel⟩

/-- A device at 2000H to 20FFH. -/
def device : State := { addressed with product := { product with memMap := [⟨0x2000, 0x20FF, .device, none⟩] } }

theorem test_meets_DeviceAccessStops : ∀ i ∈ [Instr.ldB16 0 1 5, .stW16 0 1 5, .set1 0 0 1, .caxi 1 2 5],
    ∃ x, device.dataAccess i = some x ∧ device.maeApplies x.addr x.size = false ∧
      (x.reads = true → device.mpuAllowsAll x.um .read x.addr x.size = true) ∧
      (x.writes = true → device.mpuAllowsAll x.um .write x.addr x.size = true) ∧
      device.deviceAny x.addr x.size = true := by
  intro i hi
  fin_cases hi <;> exact ⟨_, rfl, by decide +kernel, by decide +kernel, by decide +kernel, by decide +kernel⟩

theorem test_meets_ProtectedBytesKept :
    guarded.mpuAllows guarded.psw.um .write 0x2000 = false ∧ ∃ t, step guarded = .next t :=
  ⟨by decide +kernel, next_of (by decide +kernel)⟩

/-- BINS with lsb = msb, with msb above lsb, and with msb below lsb. -/
theorem test_meets_BitFieldInsertComplete :
    (15#4).toNat ≤ (15#4).toNat ∧ (0#4).toNat + 16 ≤ (15#4).toNat + 16 ∧ (0#4).toNat < (1#4).toNat := by
  decide

/-- The first and the last code that is neither of the two exceptions. -/
theorem test_meets_ConditionTable :
    (0b0000#4 ≠ 0b0101#4 ∧ 0b0000#4 ≠ 0b1101#4) ∧ 0b1111#4 ≠ 0b0101#4 ∧ 0b1111#4 ≠ 0b1101#4 := by
  decide

/-- A 1 found as the last bit of either search, and none found. -/
theorem test_meets_BitSearchesComplete :
    (∀ q < 32, 0 < q → (0x00000001#32).getLsbD q ≠ true) ∧ (0x00000001#32).getLsbD 0 = true ∧
    (∀ q < 31, (0x80000000#32).getLsbD q ≠ true) ∧ (0x80000000#32).getLsbD 31 = true ∧
    (∀ p < 32, (0x00000000#32).getLsbD p ≠ true) ∧ ∀ p < 32, (0xFFFFFFFF#32).getLsbD p ≠ false := by
  decide

/-- A divisor whose low halfword is not 0, and two registers. -/
theorem test_meets_DivisionsComplete :
    let s := base |> gr 1 0xFFFFFFFF |> gr 2 0x80000000
    s.reg 1 ≠ 0 ∧ (s.reg 1).extractLsb' 0 16 ≠ 0#16 ∧ (2 : Reg) ≠ 3 := by
  decide +kernel

/-- The divisor 0; and reg2 = reg3. -/
theorem test_meets_DivisionsWithOpenResults :
    base.reg 1 = 0 ∧ (base.reg 1).extractLsb' 0 16 = 0#16 ∧ (2 : Reg) ≠ 3 ∧ (2 : Reg) = 2 := by
  decide +kernel

theorem test_meets_BranchesComplete : base.psw.holds .nz = true ∧ base.psw.holds .z = false := by decide +kernel

theorem test_meets_LoopCompletes : (31 : Reg) ≠ 0 := by decide

/-- `i` makes a data access at `s`, and the byte may be read and written. -/
def Modifiable (s : State) (i : Instr) : Prop :=
  ∃ x, s.dataAccess i = some x ∧ CanRead s x.um x.addr 1 ∧ CanWrite s x.addr 1

theorem test_meets_BitManipulationsComplete :
    Modifiable addressed (.set1 7 0x7FFF 1) ∧ Modifiable addressed (.set1Reg 1 2) ∧
    Modifiable addressed (.clr1 0 0x8000 1) ∧ Modifiable addressed (.clr1Reg 1 2) ∧
    Modifiable addressed (.not1 7 0 1) ∧ Modifiable addressed (.not1Reg 1 2) ∧
    Modifiable addressed (.tst1 7 0 1) ∧ Modifiable addressed (.tst1Reg 1 2) := by
  refine ⟨?_, ?_, ?_, ?_, ?_, ?_, ?_, ?_⟩ <;>
    exact ⟨_, rfl, by unfold CanRead; decide +kernel, by unfold CanWrite; decide +kernel⟩

theorem test_meets_CompareAndExchangeCompletes :
    CanRead addressed addressed.psw.um (addressed.reg 1) 4 ∧ CanWrite addressed (addressed.reg 1) 4 := by
  unfold CanRead CanWrite
  decide +kernel

theorem test_meets_TableCallsAndJumpsComplete :
    CanRead addressed addressed.psw.um (addressed.sys.ctbp + 2 * (63#6).setWidth 32) 2 ∧
    CanRead addressed addressed.psw.um (addressed.pc + 2 + 2 * addressed.reg 4) 2 := by
  unfold CanRead
  decide +kernel

/-- The vector equal to SCCFG.SIZE, and the one above it, whose entry is entry 0. -/
theorem test_meets_SystemCallCompletes :
    let s := base |> sr .scbp 0x8000 |> sr .sccfg 0x3F
    (0x3F#8).toNat ≤ s.sys.sccfg.toNat % 256 ∧ CanRead s false (s.sys.scbp + 4 * (0x3F#8).setWidth 32) 4 ∧
    ¬ (0x40#8).toNat ≤ s.sys.sccfg.toNat % 256 ∧ CanRead s false (s.sys.scbp + 4 * 0) 4 := by
  unfold CanRead
  decide +kernel

theorem test_meets_PrivilegedRaiseInUserMode :
    user.psw.um = true ∧ user.sys.mctl.getLsbD 0 = false ∧
    ((31, 31) : BitVec 5 × BitVec 5) ∉ [((5, 0) : BitVec 5 × BitVec 5), (16, 0), (17, 0), (20, 0)] := by
  decide +kernel

theorem test_meets_ReturnsComplete : base.psw.um = false := by decide +kernel

/-- Supervisor mode; and user mode with MCTL.UIC = 1. -/
theorem test_meets_InterruptEnableAndRunControlComplete :
    base.psw.um = false ∧ (user |> sr .mctl 1).psw.um = true ∧ (user |> sr .mctl 1).sys.mctl.getLsbD 0 = true := by
  decide +kernel

/-- A list of all twelve registers, the range r0 to r31, and an empty range. -/
theorem test_meets_PushesComplete :
    CanPush addressed (addressed.reg 3) (listRegs 0xFFF).length ∧ (listRegs 0xFFF).length = 12 ∧
    CanPush addressed (addressed.reg 3) 32 ∧ CanPush addressed (addressed.reg 3) 0 := by
  unfold CanPush CanWrite
  decide +kernel

theorem test_meets_PopsComplete :
    CanPop addressed (addressed.reg 3 + 4 * (31#5).setWidth 32) (listRegs 0xFFF).reverse.length ∧
    CanPop addressed (addressed.reg 3) 32 ∧ CanPop addressed (addressed.reg 3) 0 := by
  unfold CanPop CanRead
  decide +kernel

/-- With sp = 1004H on `guarded`'s areas the words below may be read but not written; with sp = 2004H and write
permission at 2000H the first word may be written and the second may not; with sp = 20F8H two words may be read and the
third may not. -/
theorem test_meets_BlockTransfersStopMidway :
    (let s := guarded |> gr 3 0x2004
     CanPush s (s.reg 3) 0 ∧ s.mpuAllowsAll s.psw.um .write (stackAddr (s.reg 3 - 4 * BitVec.ofNat 32 1)) 4 = false) ∧
    (let s := guarded |> area 1 0x2000 0x20FC 0xC3 |> gr 3 0x2004
     CanPush s (s.reg 3) 1 ∧ s.mpuAllowsAll s.psw.um .write (stackAddr (s.reg 3 - 4 * BitVec.ofNat 32 2)) 4 = false) ∧
    (let s := guarded |> gr 3 0x20F8
     CanPop s (s.reg 3 + 4 * (0#5).setWidth 32) 2 ∧
       s.mpuAllowsAll s.psw.um .read (stackAddr (s.reg 3 + 4 * BitVec.ofNat 32 2)) 4 = false) ∧
    2 < (listRegs 0xFFF).length := by
  unfold CanPush CanPop CanRead CanWrite
  decide +kernel

/-- Supervisor mode, the last area of the product, and a number without a register. -/
theorem test_meets_SystemRegisterReads :
    base.psw.um = false ∧ base.product.hasMpu = true ∧ (0#1 ++ 3#3 : BitVec 4) ≤ base.product.lastArea ∧
    base.sysRegAt 31 31 = none := by
  decide +kernel

/-- A register in supervisor mode, PSW in user mode, and a number without a register. -/
theorem test_meets_SystemRegisterWrites :
    (base.sysRegAt 14 6 = some (.area .mpat 3) ∧ base.psw.um = false) ∧
    (user.sysRegAt 5 0 = some .psw ∧ user.psw.um = true) ∧
    base.sysRegAt 31 31 = none ∧
    ((31, 31) : BitVec 5 × BitVec 5) ∉
      [((10, 1) : BitVec 5 × BitVec 5), (13, 1), (14, 1), (15, 1), (16, 1), (5, 2), (20, 5)] := by
  decide +kernel

theorem test_meets_AreaEnablesWrite : base.psw.um = false ∧ base.product.hasMpu = true := by decide +kernel

/-- An instruction that leaves the core in user mode, and one that takes an exception. -/
theorem test_meets_UserModeIsConfined :
    user.psw.um = true ∧ (∃ t, exec (.ldsr 1 20 0) user = .next t) ∧ ∃ t, exec .halt user = .next t :=
  ⟨by decide +kernel, next_of (by decide +kernel), next_of (by decide +kernel)⟩

/-! ### The fetch, worked out by hand from spec/60_exceptions.md R412, R420, R440 and spec/20_memory.md R142 -/

/-- A fetch error of code 13H at the second halfword, in memory and in a device range: SYSERR in place of the
instruction. -/
theorem test_fetchError : ∀ k ∈ [RegionKind.plain, .device], goes [0x5F0A, 0xFFFC]
    (base |> fun s => { s with product := { product with memMap := [⟨0x102, 0x103, k, some 3⟩] } })
    (fun t => t.sys.fepc == 0x100 && t.sys.fepsw == 0x20 && t.sys.feic == 0x13 && t.pc == 0x10 &&
      t.psw.toWord == 0xE0 && t.sys.mea == 0) = true := by
  decide +kernel

/-- An error of a code that the product does not report is none: the instruction runs. -/
theorem test_fetchError_not_reported : goes [0x0000]
    (base |> fun s =>
      { s with product := { product with memMap := [⟨0, 0x1FF, .plain, some 3⟩], syserrCodes := [4] } })
    (fun t => t.pc == 0x102) = true := by
  decide +kernel

/-- After two stores of a word over the instruction its old halfword is the one from before both. -/
theorem test_old_halfword :
    let s := ((placed [0x1234] base).writeLE 0x100 0xAABBCCDD 4).writeLE 0x100 0x11223344 4
    s.staleHalf 0x100 = true ∧ s.halfAt 0x100 = 0x3344 ∧
      byteBefore 0x101 s.stale (s.byteAt 0x101) ++ byteBefore 0x100 s.stale (s.byteAt 0x100) = 0x1234#16 := by
  decide +kernel

end Sys2Proof.Tests
end

section
/-!
Every step keeps a legal state, and what LDSR to MPRC writes. `State.Lawful` is `State.legal` with its clauses named;
each operation of the model keeps it, once, and an instruction or a step keeps it by what it is composed of.
-/
namespace Sys2Proof.Machine

open Sys2Proof

/-! ### `State.legal` as a proposition with named parts -/

/-- `SysRegs.legal` clause by clause. -/
structure SysRegs.Lawful (y : SysRegs) : Prop where
  eipsw : y.eipsw &&& ~~~savedPswMask = 0
  fepsw : y.fepsw &&& ~~~savedPswMask = 0
  ctpsw : y.ctpsw &&& 0xFFFFFFE0#32 = 0
  ctbp : y.ctbp.getLsbD 0 = false
  mcfg0 : y.mcfg0 &&& 0xFF00FFFF#32 = 4#32
  ebase : y.ebase &&& 0x000001FE#32 = 0
  intbp : y.intbp &&& 0x000001FF#32 = 0
  mctl : y.mctl &&& 0xFFFFFFFC#32 = 0x80000000#32
  sccfg : y.sccfg &&& 0xFFFFFF00#32 = 0
  scbp : y.scbp &&& 3#32 = 0
  asid : y.asid &&& 0xFFFFFC00#32 = 0
  mei : y.mei &&& 0xFFE0F8C0#32 = 0
  ispr : y.ispr &&& 0xFFFFFF00#32 = 0
  pmr : y.pmr &&& 0xFFFFFF00#32 = 0
  intcfg : y.intcfg &&& 0xFFFFFFFE#32 = 0
  mpm : y.mpm &&& 0xFFFFF8FC#32 = 0

theorem SysRegs.legal_iff (y : SysRegs) : y.legal = true ↔ y.Lawful := by
  simp only [SysRegs.legal, Bool.and_eq_true, beq_iff_eq, Bool.not_eq_true', and_assoc]
  constructor
  · intro h
    constructor <;> simp only [h]
  · rintro ⟨⟩
    simp only [*, and_self]

/-- `Area.legal` clause by clause. -/
structure Area.Lawful (a : Area) : Prop where
  mpla : a.mpla &&& 3#32 = 0
  mpua : a.mpua &&& 3#32 = 0
  mpat : a.mpat &&& 0xFC00FF00#32 = 0

theorem Area.legal_iff (a : Area) : a.legal = true ↔ a.Lawful := by
  simp only [Area.legal, Bool.and_eq_true, beq_iff_eq, and_assoc]
  exact ⟨fun ⟨hla, hua, hat⟩ => ⟨hla, hua, hat⟩, fun ⟨hla, hua, hat⟩ => ⟨hla, hua, hat⟩⟩

/-- `State.legal` clause by clause. -/
structure State.Lawful (s : State) : Prop where
  mem : s.mem.wf = true
  pc : s.pc.getLsbD 0 = false
  debug : s.psw.debug = 0
  sys : s.sys.Lawful
  areas : ∀ n : BitVec 4, (s.area n).Lawful

theorem State.legal_iff (s : State) : s.legal = true ↔ s.Lawful := by
  have areas_iff : s.areas.all Area.legal = true ↔ ∀ n : BitVec 4, (s.area n).Lawful := by
    simp only [Vector.all_eq_true, Area.legal_iff]
    constructor
    · exact fun h n => h n.toNat n.isLt
    · intro h i hi
      simpa [State.area, Nat.mod_eq_of_lt hi] using h (BitVec.ofNat 4 i)
  simp only [State.legal, Bool.and_eq_true, beq_iff_eq, Bool.not_eq_true', and_assoc, SysRegs.legal_iff, areas_iff]
  exact ⟨fun ⟨hmem, hpc, hdebug, hsys, hareas⟩ => ⟨hmem, hpc, hdebug, hsys, hareas⟩,
    fun ⟨hmem, hpc, hdebug, hsys, hareas⟩ => ⟨hmem, hpc, hdebug, hsys, hareas⟩⟩

/-! ### Words with fixed bits -/

/-- Bit `i` of a masked write: the new word's under the mask, else the old one's. -/
theorem getLsbD_mixBits (mask old new : Word) (i : Nat) :
    (mixBits mask old new).getLsbD i = if mask.getLsbD i then new.getLsbD i else old.getLsbD i := by
  unfold mixBits
  by_cases hi : i < 32
  · simp only [BitVec.getLsbD_or, BitVec.getLsbD_and, BitVec.getLsbD_not, hi, decide_true, Bool.true_and]
    cases mask.getLsbD i <;> simp
  · simp [BitVec.getLsbD_of_ge _ _ (Nat.le_of_not_lt hi)]

/-- A masked write keeps the bits that are fixed to `c` outside its mask. -/
theorem mixBits_keeps {mask fixed old c : Word} {new : Word} (h : mask &&& fixed = 0) (hold : old &&& fixed = c) :
    mixBits mask old new &&& fixed = c := by
  subst hold
  apply BitVec.eq_of_getLsbD_eq
  intro i _
  have hi : (mask.getLsbD i && fixed.getLsbD i) = false := by simpa using congrArg (·.getLsbD i) h
  rw [BitVec.getLsbD_and, BitVec.getLsbD_and, getLsbD_mixBits]
  cases hm : mask.getLsbD i
  · simp
  · simp [hm] at hi
    simp [hi]

/-- A word with zeros where a mask has ones, bit by bit. -/
theorem and_eq_zero_iff (v mask : Word) :
    v &&& mask = 0 ↔ ∀ i < 32, mask.getLsbD i = true → v.getLsbD i = false := by
  constructor
  · intro h i _ hm
    have := congrArg (·.getLsbD i) h
    simpa [hm] using this
  · intro h
    apply BitVec.eq_of_getLsbD_eq
    intro i hi
    cases hm : mask.getLsbD i
    · simp [hm]
    · simp [h i hi hm]

/-- PSW as it is saved has no bit outside EIPSW and FEPSW (R41, R44). -/
theorem Psw.toWord_and (p : Psw) : p.toWord &&& ~~~savedPswMask = 0 := by
  rw [and_eq_zero_iff]
  intro i hi hm
  simp only [Psw.toWord, savedPswMask, BitVec.getLsbD_append] at hm ⊢
  interval_cases i <;> simp at hm ⊢

/-- CTPSW takes the five flags alone (R52). -/
theorem Psw.flagsWord_and (p : Psw) : p.flagsWord &&& 0xFFFFFFE0#32 = 0 := by
  rw [and_eq_zero_iff]
  intro i hi hm
  simp only [Psw.flagsWord, BitVec.getLsbD_append]
  interval_cases i <;> simp at hm ⊢

/-- The value that MAE and MDP leave in MEI (R60, R61). -/
theorem AccessTag.mei_and (t : AccessTag) : t.mei &&& 0xFFE0F8C0#32 = 0 := by
  rw [and_eq_zero_iff]
  intro i hi hm
  simp only [AccessTag.mei, BitVec.getLsbD_append]
  interval_cases i <;> simp at hm ⊢

/-! ### Registers, flags and the model's bookkeeping: no part of them has fixed bits but PSW.Debug -/

namespace State.Lawful

variable {s : State}

/-- A legal state is a matter of memory, PC, PSW.Debug, the system registers and the areas. -/
theorem congr {t : State} (h : s.Lawful) (hmem : t.mem = s.mem) (hpc : t.pc = s.pc)
    (hdebug : t.psw.debug = s.psw.debug) (hsys : t.sys = s.sys) (hareas : t.areas = s.areas) : t.Lawful := by
  rw [← State.legal_iff, State.legal, hmem, hpc, hdebug, hsys, hareas]
  exact (State.legal_iff s).2 h

theorem setReg (h : s.Lawful) (r : Reg) (v : Word) : (s.setReg r v).Lawful :=
  h.congr (by simp) (by simp) (by simp) (by simp) (by simp)

theorem useFree (h : s.Lawful) (n : Nat) : (s.useFree n).Lawful := { h with }

theorem markLoaded (h : s.Lawful) (a : Word) (n : Nat) : (s.markLoaded a n).Lawful := { h with }

theorem setFlags (h : s.Lawful) (cy ov sg z : Bool) : (s.setFlags cy ov sg z).Lawful := { h with }

theorem setOvSZ (h : s.Lawful) (ov sg z : Bool) : (s.setOvSZ ov sg z).Lawful := { h with }

theorem setZ (h : s.Lawful) (z : Bool) : (s.setZ z).Lawful := { h with }

theorem setSatFlags (h : s.Lawful) (x : Arith) : (s.setSatFlags x).Lawful := { h with }

theorem setRun (h : s.Lawful) (r : RunState) : ({ s with run := r } : State).Lawful := { h with }

theorem setReq (h : s.Lawful) (r : Requests) : ({ s with req := r } : State).Lawful := { h with }

theorem setStale (h : s.Lawful) (es : List StaleByte) : ({ s with stale := es } : State).Lawful := { h with }

theorem setPsw (h : s.Lawful) {p : Psw} (hp : p.debug = s.psw.debug) : ({ s with psw := p } : State).Lawful :=
  { h with debug := hp.trans h.debug }

theorem setSys (h : s.Lawful) {y : SysRegs} (hy : y.Lawful) : ({ s with sys := y } : State).Lawful :=
  { h with sys := hy }

theorem reportError (h : s.Lawful) (e : Option (BitVec 4)) : (s.reportError e).Lawful := by
  obtain ⟨c, hc⟩ := s.reportError_eq e
  rw [hc]
  exact h.setReq _

theorem setArith (h : s.Lawful) (r : Reg) (x : Arith) : (s.setArith r x).Lawful :=
  (h.setReg r _).setFlags _ _ _ _

theorem setSaturated (h : s.Lawful) (r : Reg) (x : Arith) : (s.setSaturated r x).Lawful :=
  (h.setReg r _).setSatFlags x

theorem setLogic (h : s.Lawful) (r : Reg) (v : Word) : (s.setLogic r v).Lawful := (h.setReg r v).setOvSZ _ _ _

theorem setShifted (h : s.Lawful) (r : Reg) (cy : Bool) (v : Word) : (s.setShifted r cy v).Lawful :=
  (h.setReg r v).setFlags _ _ _ _

theorem insertBits (h : s.Lawful) (reg1 reg2 : Reg) (msb lsb : Nat) : (s.insertBits reg1 reg2 msb lsb).Lawful := by
  unfold State.insertBits
  split
  · exact ((h.setReg _ _).setOvSZ _ _ _).useFree 4
  · exact h.setLogic _ _

theorem setDivision (h : s.Lawful) (reg2 reg3 : Reg) (d : Option Division) : (s.setDivision reg2 reg3 d).Lawful := by
  by_cases hr : reg2 = reg3
  · simp only [State.setDivision, hr, if_true]
    exact ((h.setReg _ _).setOvSZ _ _ _).useFree 4
  · cases d with
    | some d =>
      simp only [State.setDivision, hr, if_false]
      exact ((h.setReg _ _).setReg _ _).setOvSZ _ _ _
    | none =>
      simp only [State.setDivision, hr, if_false]
      exact (((h.setReg _ _).setReg _ _).setOvSZ _ _ _).useFree 4

theorem setQuotient (h : s.Lawful) (reg2 : Reg) (d : Option Division) : (s.setQuotient reg2 d).Lawful := by
  cases d with
  | some d => exact (h.setReg _ _).setOvSZ _ _ _
  | none => exact ((h.setReg _ _).setOvSZ _ _ _).useFree 3

/-! ### The program counter and memory -/

theorem setPc (h : s.Lawful) (v : Word) : (s.setPc v).Lawful :=
  { h with pc := Word.getLsbD_even_zero v }

theorem advance (h : s.Lawful) (n : Nat) : (s.advance n).Lawful := h.setPc _

theorem writeLE (h : s.Lawful) (a : Word) (v : Dword) (n : Nat) : (s.writeLE a v n).Lawful := by
  rw [State.writeLE_frame]
  exact { h with mem := State.wf_writeLE a v n h.mem }

theorem writeMixed (h : s.Lawful) (a : Word) (v : Dword) (n : Nat) : (s.writeMixed a v n).Lawful := by
  rw [State.writeMixed_frame]
  exact { h with mem := State.wf_writeMixed a v n h.mem }

/-! ### Exceptions and returns -/

theorem takeExceptionAt (h : s.Lawful) (x : Exception) (ret handler : Word) :
    (s.takeExceptionAt x ret handler).Lawful := by
  refine { h with pc := Word.getLsbD_even_zero handler, sys := ?_ }
  unfold State.takeExceptionAt
  cases x.feLevel
  · exact { h.sys with eipsw := s.psw.toWord_and }
  · exact { h.sys with fepsw := s.psw.toWord_and }

theorem takeException (h : s.Lawful) (x : Exception) (ret : Word) : (s.takeException x ret).Lawful :=
  h.takeExceptionAt x ret _

theorem raise (h : s.Lawful) (x : Exception) : (s.raise x).Lawful := h.takeException x s.pc

theorem endOfHandler (h : s.Lawful) (eiLevel : Bool) : (s.endOfHandler eiLevel).Lawful := by
  have cleared : clearLowestSet s.sys.ispr &&& 0xFFFFFF00#32 = 0 := by
    rw [clearLowestSet, BitVec.and_assoc, BitVec.and_comm (s.sys.ispr - 1), ← BitVec.and_assoc, h.sys.ispr]
    exact BitVec.zero_and
  unfold State.endOfHandler
  split
  · exact h
  · dsimp only
    split
    · exact { h with sys := { h.sys with ispr := cleared } }
    · exact { h with }

/-- A return leaves PSW.Debug (decision D20). -/
theorem returnTo (h : s.Lawful) (pc psw : Word) : (s.returnTo pc psw).Lawful :=
  { h.setPc pc with debug := h.debug }

theorem returnEi (h : s.Lawful) : s.returnEi.Lawful := (h.endOfHandler true).returnTo _ _

theorem returnFe (h : s.Lawful) : s.returnFe.Lawful := (h.endOfHandler false).returnTo _ _

end State.Lawful

/-! ### Data accesses -/

/-- Whatever an access that may end in an exception leaves is legal. -/
def Access.Lawful {α : Type} : Access α → Prop
  | .done _ s => s.Lawful
  | .raised s => s.Lawful
  | .stopped _ => True

/-- A state that is answered as the next one is legal. -/
inductive AnswersLawful : Result → Prop
  | next {t : State} (h : t.Lawful) : AnswersLawful (.next t)
  | fault (r : Fault) : AnswersLawful (.fault r)
  | refused (r : Refusal) : AnswersLawful (.refused r)

theorem Access.Lawful.bind {α β : Type} {x : Access α} {f : α → State → Access β} (hx : x.Lawful)
    (hf : ∀ v s, s.Lawful → (f v s).Lawful) : (x.bind f).Lawful := by
  cases x with
  | done v s => exact hf v s hx
  | raised s => exact hx
  | stopped r => trivial

theorem Access.Lawful.andThen {α : Type} {x : Access α} {f : α → State → Result} (hx : x.Lawful)
    (hf : ∀ v s, s.Lawful → AnswersLawful (f v s)) : AnswersLawful (x.andThen f) := by
  cases x with
  | done v s => exact hf v s hx
  | raised s => exact .next hx
  | stopped r => exact .fault r

namespace State.Lawful

variable {s : State}

/-- The state in which MAE and MDP are raised: MEA and MEI written, of which MEI has fixed bits (R60). -/
theorem setMemoryError (h : s.Lawful) (t : AccessTag) (a : Word) :
    ({ s with sys := { s.sys with mea := a, mei := t.mei } } : State).Lawful :=
  { h with sys := { h.sys with mei := t.mei_and } }

theorem checkAccess (h : s.Lawful) {t : AccessTag} {um rd wr : Bool} {a : Word} {n : Nat} {x : State}
    (hx : s.checkAccess t um rd wr a n = some x) : x.Lawful := by
  unfold State.checkAccess at hx
  split at hx
  · obtain rfl := Option.some.inj hx
    exact (h.setMemoryError t a).raise _
  · dsimp only at hx
    split at hx
    · obtain rfl := Option.some.inj hx
      exact (h.setMemoryError t a).raise _
    · cases hx

theorem accessRead (h : s.Lawful) (a : Word) (n : Nat) : (s.accessRead a n).Lawful := by
  unfold State.accessRead
  repeat' split
  · exact h.markLoaded a n
  · trivial
  · exact ((h.markLoaded a n).useFree n).reportError _

theorem accessWrite (h : s.Lawful) (a : Word) (n : Nat) (v : Dword) : (s.accessWrite a n v).Lawful := by
  unfold State.accessWrite
  repeat' split
  · exact h.writeLE a v n
  · trivial
  · exact (h.writeMixed a v n).reportError _

theorem memRead (h : s.Lawful) (t : AccessTag) (um : Bool) (a : Word) (n : Nat) : (s.memRead t um a n).Lawful := by
  unfold State.memRead
  split
  · rename_i x hx
    exact h.checkAccess hx
  · exact h.accessRead a n

theorem memWrite (h : s.Lawful) (t : AccessTag) (a : Word) (n : Nat) (v : Dword) : (s.memWrite t a n v).Lawful := by
  unfold State.memWrite
  split
  · rename_i x hx
    exact h.checkAccess hx
  · exact h.accessWrite a n v

theorem memModify (h : s.Lawful) (t : AccessTag) (a : Word) (n : Nat) (f : Dword → Dword) :
    (s.memModify t a n f).Lawful := by
  unfold State.memModify
  split
  · rename_i x hx
    exact h.checkAccess hx
  · exact (h.accessRead a n).bind fun v s hs => (hs.accessWrite a n (f v)).bind fun _ _ ht => ht

theorem storeBlock (h : s.Lawful) (t : AccessTag) (tmp : Word) (rs : List Reg) : (s.storeBlock t tmp rs).Lawful := by
  induction rs generalizing s tmp with
  | nil => exact h
  | cons r rest ih => exact (h.memWrite t _ 4 _).bind fun _ _ hs => ih hs _

theorem restoreReg (h : s.Lawful) (r : Reg) (v : Word) : (s.restoreReg r v).Lawful := by
  unfold State.restoreReg
  split
  · exact h
  · exact h.setReg r v

theorem loadBlock (h : s.Lawful) (t : AccessTag) (tmp : Word) (rs : List Reg) : (s.loadBlock t tmp rs).Lawful := by
  induction rs generalizing s tmp with
  | nil => exact h
  | cons r rest ih => exact (h.memRead t _ _ 4).bind fun v _ hs => ih (hs.restoreReg r v.low) _

theorem prepareFrame (h : s.Lawful) (imm5 : BitVec 5) (list12 : BitVec 12) : (s.prepareFrame imm5 list12).Lawful :=
  (h.storeBlock _ _ _).bind fun _ _ hs => hs.setReg sp _

theorem disposeFrame (h : s.Lawful) (imm5 : BitVec 5) (list12 : BitVec 12) : (s.disposeFrame imm5 list12).Lawful :=
  h.loadBlock _ _ _

end State.Lawful

/-! ### Writing a system register -/

/-- The R/W bits of MCFG0 are SPID's (R68). -/
theorem Product.mcfg0Mask_fixed (p : Product) : Product.mcfg0Mask p &&& 0xFF00FFFF#32 = 0 := by
  unfold Product.mcfg0Mask
  generalize p.spidWidth = w
  revert w
  decide

/-- The R/W bits of MCTL are bits 1 and 0 at most (R69). -/
theorem Product.mctlMask_fixed (p : Product) : Product.mctlMask p &&& 0xFFFFFFFC#32 = 0 := by
  unfold Product.mctlMask
  split <;> rfl

/-- The R/W bits of MPM (R74). -/
theorem Product.mpmMask_fixed (p : Product) : Product.mpmMask p &&& 0xFFFFF8FC#32 = 0 := by
  unfold Product.mpmMask
  split <;> rfl

/-- The R/W bits of MPAT (R81). -/
theorem Product.mpatMask_fixed (p : Product) : Product.mpatMask p &&& 0xFC00FF00#32 = 0 := by
  unfold Product.mpatMask
  split <;> rfl

theorem State.area_setArea (s : State) (n m : BitVec 4) (a : Area) :
    (s.setArea n a).area m = if n = m then a else s.area m := by
  simp only [State.area, State.setArea, Vector.getElem_set, BitVec.toNat_inj]

/-- A protection area after a write to MPRC: bit 7 of MPAT is written where the product has the area (R75). -/
theorem State.area_writeMprc (s : State) (v : Word) (n : BitVec 4) :
    (s.writeMprc v).area n =
      if n ≤ s.product.lastArea then
        { s.area n with
          mpat := mixBits 0x80 (s.area n).mpat ((BitVec.ofBool (v.getLsbD n.toNat)).setWidth 32 <<< 7) }
      else s.area n := by
  simp only [State.area, State.writeMprc, Vector.getElem_ofFn, BitVec.le_def]

namespace State.Lawful

variable {s : State}

/-- MPRC writes bit 7 of MPATn, which has no fixed value (R75, R81). -/
theorem writeMprc (h : s.Lawful) (v : Word) : (s.writeMprc v).Lawful := by
  refine { h with areas := fun n => ?_ }
  rw [State.area_writeMprc]
  split
  · exact { h.areas n with mpat := mixBits_keeps (by decide) (h.areas n).mpat }
  · exact h.areas n

theorem writePsw (h : s.Lawful) (v : Word) : (s.writePsw v).Lawful := by
  refine { h with debug := ?_ }
  unfold State.writePsw
  dsimp only
  split <;> exact h.debug

/-- LDSR to a register of an area: the bits outside its mask keep their values (R79 to R81). -/
theorem putArea (h : s.Lawful) (n : BitVec 4) (k : AreaReg) (v : Word) :
    (s.setArea n ((s.area n).put k (mixBits (Product.areaMask s.product k) ((s.area n).get k) v))).Lawful := by
  refine { h with areas := fun m => ?_ }
  have ha := h.areas n
  rw [State.area_setArea]
  split
  · cases k with
    | mpla => exact { ha with mpla := mixBits_keeps (mask := 0xFFFFFFFC) (by decide) ha.mpla }
    | mpua => exact { ha with mpua := mixBits_keeps (mask := 0xFFFFFFFC) (by decide) ha.mpua }
    | mpat => exact { ha with mpat := mixBits_keeps (Product.mpatMask_fixed s.product) ha.mpat }
  · exact h.areas m

theorem writeSys (h : s.Lawful) (r : SysReg) (v : Word) : (s.writeSys r v).Lawful := by
  have hy := h.sys
  cases r with
  | eipsw => exact { h with sys := { hy with eipsw := mixBits_keeps (by decide) hy.eipsw } }
  | fepsw => exact { h with sys := { hy with fepsw := mixBits_keeps (by decide) hy.fepsw } }
  | ctpsw => exact { h with sys := { hy with ctpsw := mixBits_keeps (by decide) hy.ctpsw } }
  | ctbp => exact { h with sys := { hy with ctbp := (getLsbD_mixBits _ _ _ _).trans hy.ctbp } }
  | mcfg0 => exact { h with sys := { hy with mcfg0 := mixBits_keeps (Product.mcfg0Mask_fixed s.product) hy.mcfg0 } }
  | ebase => exact { h with sys := { hy with ebase := mixBits_keeps (by decide) hy.ebase } }
  | intbp => exact { h with sys := { hy with intbp := mixBits_keeps (by decide) hy.intbp } }
  | mctl => exact { h with sys := { hy with mctl := mixBits_keeps (Product.mctlMask_fixed s.product) hy.mctl } }
  | sccfg => exact { h with sys := { hy with sccfg := mixBits_keeps (by decide) hy.sccfg } }
  | scbp => exact { h with sys := { hy with scbp := mixBits_keeps (by decide) hy.scbp } }
  | asid => exact { h with sys := { hy with asid := mixBits_keeps (by decide) hy.asid } }
  | mei => exact { h with sys := { hy with mei := mixBits_keeps (by decide) hy.mei } }
  | pmr => exact { h with sys := { hy with pmr := mixBits_keeps (by decide) hy.pmr } }
  | intcfg => exact { h with sys := { hy with intcfg := mixBits_keeps (by decide) hy.intcfg } }
  | mpm => exact { h with sys := { hy with mpm := mixBits_keeps (Product.mpmMask_fixed s.product) hy.mpm } }
  | ispr =>
    rw [State.writeSys]
    split
    · exact { h with sys := { hy with ispr := mixBits_keeps (by decide) hy.ispr } }
    · exact h
  | psw => exact h.writePsw v
  | mprc => exact h.writeMprc v
  | area k n => exact h.putArea n k v
  | eipc | fepc | eiic | feic | ctpc | eiwr | fewr | mea => exact { h with sys := { hy with } }
  | bsel | rbase | pid | htcfg0 | icsr | mpbrgn | mptrgn | mcr => exact h

/-! ### Instructions -/

theorem done (h : s.Lawful) (n : Nat) : AnswersLawful (s.done n) := .next (h.advance n)

theorem jump (h : s.Lawful) (target : Word) : AnswersLawful (s.jump target) := .next (h.setPc target)

/-- A branch goes to its target or on. -/
theorem branch {c : Prop} [Decidable c] (h : s.Lawful) (target : Word) (n : Nat) :
    AnswersLawful (if c then s.jump target else s.done n) := by
  split
  · exact h.jump target
  · exact h.done n

theorem privileged (h : s.Lawful) {k : State → Result} (hk : ∀ s : State, s.Lawful → AnswersLawful (k s)) :
    AnswersLawful (s.privileged k) := by
  unfold State.privileged
  split
  · exact .next (h.raise .pie)
  · exact hk s h

theorem loadReg (h : s.Lawful) (t : AccessTag) (a : Word) (n : Nat) (ext : Dword → Word) (r : Reg) (len : Nat) :
    AnswersLawful (s.loadReg t a n ext r len) :=
  (h.memRead t _ a n).andThen fun v _ hs => (hs.setReg r (ext v)).done len

theorem storeReg (h : s.Lawful) (t : AccessTag) (a : Word) (n : Nat) (r : Reg) (len : Nat) :
    AnswersLawful (s.storeReg t a n r len) :=
  (h.memWrite t a n _).andThen fun _ _ hs => hs.done len

theorem changeBit (h : s.Lawful) (a : Word) (b : BitVec 3) (f : Dword → Dword → Dword) :
    AnswersLawful (s.changeBit a b f) :=
  (h.memModify _ a 1 _).andThen fun _ _ hs => (hs.setZ _).done 4

theorem testBit (h : s.Lawful) (a : Word) (b : BitVec 3) : AnswersLawful (s.testBit a b) :=
  (h.memRead _ _ a 1).andThen fun _ _ hs => (hs.setZ _).done 4

theorem setId (h : s.Lawful) (id : Bool) : AnswersLawful (s.setId id) := by
  unfold State.setId
  split
  · exact .next (h.raise .pie)
  · exact (h.setPsw (by rfl)).done 4

/-- PREPARE: what follows the frame writes ep at most. -/
theorem prepare (h : s.Lawful) (imm5 : BitVec 5) (list12 : BitVec 12) (v : State → Word) (len : Nat) :
    AnswersLawful ((s.prepareFrame imm5 list12).andThen fun _ s => (s.setReg ep (v s)).done len) :=
  (h.prepareFrame imm5 list12).andThen fun _ s hs => (hs.setReg ep (v s)).done len

theorem execLoop (h : s.Lawful) (reg1 : Reg) (disp : BitVec 15) : AnswersLawful (execLoop reg1 disp s) := by
  unfold Machine.execLoop
  generalize add32 (s.reg reg1) 0xFFFFFFFF false = x
  have ht := h.setArith reg1 x
  dsimp only
  split
  · exact ht.done 4
  · exact ht.jump _

theorem execLdDw (h : s.Lawful) (disp : BitVec 22) (reg1 reg3 : Reg) :
    AnswersLawful (execLdDw disp reg1 reg3 s) := by
  unfold Machine.execLdDw
  split
  · exact .refused _
  · exact (h.memRead _ _ _ 8).andThen fun _ _ hs => ((hs.setReg _ _).setReg _ _).done 6

theorem execStDw (h : s.Lawful) (disp : BitVec 22) (reg1 reg3 : Reg) :
    AnswersLawful (execStDw disp reg1 reg3 s) := by
  unfold Machine.execStDw
  split
  · exact .refused _
  · exact (h.memWrite _ _ 8 _).andThen fun _ _ hs => hs.done 6

theorem execCaxi (h : s.Lawful) (reg1 reg2 reg3 : Reg) : AnswersLawful (execCaxi reg1 reg2 reg3 s) :=
  (h.memModify _ _ 4 _).andThen fun _ _ ht => ((ht.setReg _ _).setFlags _ _ _ _).done 4

theorem execCallt (h : s.Lawful) (imm6 : BitVec 6) : AnswersLawful (execCallt imm6 s) :=
  (h.memRead _ _ _ 2).andThen fun _ s hs =>
    .next ((hs.setSys (y := { s.sys with ctpc := s.pc + 2, ctpsw := s.psw.flagsWord })
      { hs.sys with ctpsw := s.psw.flagsWord_and }).setPc _)

theorem execCtret (h : s.Lawful) : AnswersLawful (execCtret s) :=
  .next ((h.setPsw (p := s.psw.loadFlags s.sys.ctpsw) rfl).setPc _)

theorem execSwitch (h : s.Lawful) (reg1 : Reg) : AnswersLawful (execSwitch reg1 s) :=
  (h.memRead _ _ _ 2).andThen fun _ _ hs => .next (hs.setPc _)

theorem execDispose (h : s.Lawful) (imm5 : BitVec 5) (list12 : BitVec 12) :
    AnswersLawful (execDispose imm5 list12 s) :=
  (h.disposeFrame imm5 list12).andThen fun tmp _ hs => (hs.setReg sp tmp).done 4

theorem execDisposeJmp (h : s.Lawful) (imm5 : BitVec 5) (list12 : BitVec 12) (reg1 : Reg) :
    AnswersLawful (execDisposeJmp imm5 list12 reg1 s) :=
  (h.disposeFrame imm5 list12).andThen fun tmp _ hs => .next ((hs.setReg sp tmp).setPc _)

theorem execPushsp (h : s.Lawful) (rh rt : Reg) : AnswersLawful (execPushsp rh rt s) :=
  (h.storeBlock _ _ _).andThen fun tmp _ hs => (hs.setReg sp tmp).done 4

theorem execPopsp (h : s.Lawful) (rh rt : Reg) : AnswersLawful (execPopsp rh rt s) :=
  (h.loadBlock _ _ _).andThen fun tmp _ hs => (hs.setReg sp tmp).done 4

theorem execSyscall (h : s.Lawful) (vector8 : BitVec 8) : AnswersLawful (execSyscall vector8 s) :=
  (h.memRead _ _ _ 4).andThen fun _ _ hs => .next (hs.takeExceptionAt _ _ _)

theorem execLdsr (h : s.Lawful) (reg2 : Reg) (regID selID : BitVec 5) :
    AnswersLawful (execLdsr reg2 regID selID s) := by
  unfold Machine.execLdsr
  dsimp only
  split
  · exact .next (h.raise .pie)
  · split
    · exact .refused _
    · cases s.sysRegAt regID selID with
      | some r => exact (h.writeSys r _).done 4
      | none => exact h.done 4

theorem execStsr (h : s.Lawful) (regID : BitVec 5) (reg2 : Reg) (selID : BitVec 5) :
    AnswersLawful (execStsr regID reg2 selID s) := by
  unfold Machine.execStsr
  dsimp only
  split
  · exact .next (h.raise .pie)
  · cases s.sysRegAt regID selID with
    | some r => exact (h.setReg reg2 _).done 4
    | none => exact ((h.setReg reg2 _).useFree 1).done 4

/-- Every instruction answers a legal state, if any. -/
theorem exec (h : s.Lawful) (i : Instr) : AnswersLawful (exec i s) := by
  cases i with
  -- loads and stores
  | ldB16 | ldB23 | ldBu16 | ldBu23 | ldH16 | ldH23 | ldHu16 | ldHu23 | ldW16 | ldW23 | sldB | sldBu | sldH | sldHu
  | sldW | ldlW => exact h.loadReg _ _ _ _ _ _
  | stB16 | stB23 | stH16 | stH23 | stW16 | stW23 | sstB | sstH | sstW | stcW => exact h.storeReg _ _ _ _ _
  | ldDw => exact h.execLdDw _ _ _
  | stDw => exact h.execStDw _ _ _
  -- registers and flags
  | mulh | mulhImm | mulhi | movReg | movImm5 | movImm32 | movea | movhi | cmov | cmovImm | sasf | setf | sxb | sxh
  | zxb | zxh => exact (h.setReg _ _).done _
  | mul | mulImm | mulu | muluImm | mac | macu => exact ((h.setReg _ _).setReg _ _).done _
  | addReg | addImm | addi | sub | subr | adf | sbf => exact (h.setArith _ _).done _
  | satadd | sataddImm | satadd3 | satsub | satsub3 | satsubi | satsubr => exact (h.setSaturated _ _).done _
  | andReg | andi | notReg | orReg | ori | xorReg | xori => exact (h.setLogic _ _).done _
  | cmpReg | cmpImm => exact (h.setFlags _ _ _ _).done _
  | tst => exact (h.setOvSZ _ _ _).done _
  | binsHh | binsHl | binsLl => exact (h.insertBits _ _ _ _).done _
  | bsh | bsw | hsh | hsw | sch0l | sch0r | sch1l | sch1r => exact ((h.setReg _ _).setFlags _ _ _ _).done _
  | rotlImm | rotl | sar | sarImm | sar3 | shl | shlImm | shl3 | shr | shrImm | shr3 =>
    exact (h.setShifted _ _ _).done _
  | div | divh3 | divhu | divu | divq | divqu => exact (h.setDivision _ _ _).done _
  | divh2 => exact (h.setQuotient _ _).done _
  -- branches
  | bcond9 | bcond17 => exact h.branch _ _
  | jarl22 | jarl32 | jarlReg => exact (h.setReg _ _).jump _
  | jmpReg | jmp32 | jr22 | jr32 => exact h.jump _
  | loop reg1 disp => exact h.execLoop reg1 disp
  -- bits of memory
  | clr1 | clr1Reg | not1 | not1Reg | set1 | set1Reg => exact h.changeBit _ _ _
  | tst1 | tst1Reg => exact h.testBit _ _
  | caxi => exact h.execCaxi _ _ _
  -- tables and stack frames
  | callt => exact h.execCallt _
  | ctret => exact h.execCtret
  | switch => exact h.execSwitch _
  | prepare => exact (h.prepareFrame _ _).andThen fun _ _ hs => hs.done 4
  | prepareSp => exact h.prepare _ _ (fun s => s.reg sp) 4
  | prepareImmLo | prepareImmHi | prepareImm32 => exact h.prepare _ _ (fun _ => _) _
  | dispose => exact h.execDispose _ _
  | disposeJmp => exact h.execDisposeJmp _ _ _
  | pushsp => exact h.execPushsp _ _
  | popsp => exact h.execPopsp _ _
  -- exceptions, returns, run control
  | cll | rie | rieImm => exact .next (h.raise .rie)
  | fetrap | trap => exact .next (h.takeException _ _)
  | syscall => exact h.execSyscall _
  | eiret => exact h.privileged fun _ hs => .next hs.returnEi
  | feret => exact h.privileged fun _ hs => .next hs.returnFe
  | di | ei => exact h.setId _
  | halt => exact h.privileged fun _ hs => (hs.setRun .halted).done 4
  | snooze => exact (h.setRun _).done 4
  -- system registers, synchronization, caches
  | ldsr => exact h.execLdsr _ _ _
  | stsr => exact h.execStsr _ _ _
  | synci => exact (h.setStale _).done 2
  | nop | synce | syncm | syncp | cache | pref => exact h.done _

/-! ### The step -/

theorem fetchHalfs (h : s.Lawful) : s.fetchHalfs.state.Lawful := by
  obtain ⟨fc, hfc, _⟩ := s.fetchHalfs_cases
  rw [hfc]
  exact { h with }

theorem raiseUndefined (h : s.Lawful) (h1 h2 : Half) : (s.raiseUndefined h1 h2).Lawful := by
  unfold State.raiseUndefined
  split <;> exact h.raise _

theorem raiseMip (h : s.Lawful) : s.raiseMip.Lawful :=
  (h.setSys (y := { s.sys with mea := s.pc }) { h.sys with }).raise .mip

end State.Lawful

/-- Whatever state a fetch leaves is legal. -/
inductive Fetched.Lawful : Fetched → Prop
  | instr (i : Instr) {s : State} (h : s.Lawful) : Fetched.Lawful (.instr i s)
  | raised {s : State} (h : s.Lawful) : Fetched.Lawful (.raised s)
  | refused (r : Refusal) : Fetched.Lawful (.refused r)
  | stopped (f : Fault) : Fetched.Lawful (.stopped f)

theorem decodeFetched_lawful {f : FetchedHalfs} (h : f.state.Lawful) : (decodeFetched f).Lawful := by
  unfold decodeFetched
  split
  · exact .instr _ h
  · exact .refused _
  · exact .refused _
  · exact .refused _
  · exact .refused _
  · exact .raised (h.raiseUndefined _ _)
  · exact .raised (h.raiseUndefined _ _)

namespace State.Lawful

variable {s : State}

theorem fetch (h : s.Lawful) : s.fetch.Lawful := by
  have hf := h.fetchHalfs
  unfold State.fetch
  dsimp only
  split
  · exact .raised hf.raiseMip
  · split
    · exact .raised (hf.raise _)
    · split
      · exact .stopped _
      · exact decodeFetched_lawful hf

theorem runInstruction (h : s.Lawful) : AnswersLawful (runInstruction s) := by
  have hf := h.fetch
  unfold Machine.runInstruction
  generalize s.fetch = f at hf ⊢
  cases hf with
  | instr i hs => exact hs.exec i
  | raised hs => exact .next hs
  | refused r => exact .refused r
  | stopped f => exact .fault f

/-- ISPR has a bit for each of the eight priorities (R70). -/
theorem enterEiint (h : s.Lawful) (r : EiintRequest) (handler : Word) : (s.enterEiint r handler).Lawful := by
  have ht := h.takeExceptionAt (.eiint r.channel r.priority) s.pc handler
  have hbit : ∀ p : BitVec 3, ((1 <<< p.toNat : Nat) : Word) &&& 0xFFFFFF00#32 = 0 := by decide
  unfold State.enterEiint
  generalize s.takeExceptionAt (.eiint r.channel r.priority) s.pc handler = t at ht
  refine { ht with sys := { ht.sys with ispr := ?_ } }
  dsimp only
  split
  · exact ht.sys.ispr
  · rw [BitVec.and_comm, BitVec.and_or_distrib_left, BitVec.and_comm, ht.sys.ispr, BitVec.and_comm, hbit]
    rfl

theorem acknowledgeEiint (h : s.Lawful) (r : EiintRequest) : AnswersLawful (s.acknowledgeEiint r) := by
  unfold State.acknowledgeEiint
  split
  · exact (h.memRead _ _ _ 4).andThen fun v _ hs => .next (hs.enterEiint r v.low)
  · exact .next (h.enterEiint r _)

theorem acknowledge (h : s.Lawful) {r : Result} (hr : s.acknowledge = some r) : AnswersLawful r := by
  unfold State.acknowledge at hr
  split at hr
  · obtain rfl := Option.some.inj hr
    exact .next ((h.setReq _).takeException _ _)
  · split at hr
    · obtain rfl := Option.some.inj hr
      exact .next ((h.setReq _).takeException _ _)
    · split at hr
      · obtain rfl := Option.some.inj hr
        exact .next ((h.setReq _).takeException _ _)
      · split at hr
        · obtain rfl := Option.some.inj hr
          exact h.acknowledgeEiint _
        · cases hr

theorem wake (h : s.Lawful) {t : State} (ht : s.wake = some t) : t.Lawful := by
  unfold State.wake at ht
  split at ht
  · obtain rfl := Option.some.inj ht
    exact h
  all_goals
    split at ht
    · obtain rfl := Option.some.inj ht
      exact h.setRun _
    · cases ht

theorem idle (h : s.Lawful) : s.idle.Lawful := by
  unfold State.idle
  split
  · exact h.setRun _
  · exact h

end State.Lawful

/-! ### Reset -/

theorem SysRegs.lawful_reset (p : Product) : (SysRegs.reset p).Lawful := by
  constructor
  case mcfg0 =>
    simp only [SysRegs.reset]
    generalize p.spidReset &&& (0xFF#8 >>> (7 - p.spidWidth.val)) = spid
    apply BitVec.eq_of_getLsbD_eq
    intro i hi
    rw [BitVec.getLsbD_and, BitVec.getLsbD_append, BitVec.getLsbD_append]
    interval_cases i <;> simp
  all_goals
    simp only [SysRegs.reset]
    decide

theorem Area.lawful_reset (p : Product) : (Area.reset p).Lawful := by
  have hs : ∀ b : BitVec 3, (0#26 ++ b ++ 0#3 : BitVec 32) &&& 0xFC00FF00#32 = 0 := by decide
  constructor
  case mpat =>
    unfold Area.reset
    dsimp only
    split
    · exact hs _
    · rfl
  all_goals simp [Area.reset]

/-- Every product's state after reset is legal where its memory is in canonical form. -/
theorem State.lawful_resetOf (p : Product) {m : Memory} (hm : m.wf = true) : (State.resetOf p m).Lawful where
  mem := hm
  pc := BitVec.getLsbD_append.trans (by simp)
  debug := rfl
  sys := SysRegs.lawful_reset p
  areas n := by
    simp only [State.area, State.resetOf, Vector.getElem_replicate]
    exact Area.lawful_reset p

theorem State.Lawful.resetInput {s : State} (h : s.Lawful) : s.resetInput.Lawful :=
  { State.lawful_resetOf s.product h.mem with }

/-- Every step keeps a legal state: the reset input, idling, an acknowledged exception, an instruction. -/
theorem State.Lawful.step {s : State} (h : s.Lawful) : AnswersLawful (step s) := by
  unfold Machine.step
  split
  · exact .next h.resetInput
  · split
    · exact .next h.idle
    · rename_i t ht
      have hs := h.wake ht
      split
      · rename_i r hr
        exact hs.acknowledge hr
      · exact hs.runInstruction

/-- Settles O4: `State.Lawful`, which is `State.legal`, is kept by every operation a step is made of. -/
theorem stepKeepsLegal : Obligations.StepKeepsLegal := by
  intro s t hs ht
  have h := ((State.legal_iff s).1 hs).step
  rw [ht] at h
  cases h with
  | next h => exact (State.legal_iff t).2 h

/-- Settles O5: `State.reset` is the case of the default product and the empty memory. -/
theorem resetLegal : Obligations.ResetLegal :=
  ⟨(State.legal_iff _).2 (State.lawful_resetOf _ Memory.wf_reset),
    fun p _ hm => (State.legal_iff _).2 (State.lawful_resetOf p hm)⟩

/-! ### LDSR to MPRC -/

/-- LDSR in supervisor mode to a register the product has, of a number that may be written. -/
theorem exec_ldsr_of_supervisor {s : State} {regID selID : BitVec 5} {r : SysReg} (reg2 : Reg) (hum : s.psw.um = false)
    (hr : s.sysRegAt regID selID = some r) (hp : writeProhibited regID selID = false) :
    exec (.ldsr reg2 regID selID) s = .next ((s.writeSys r (s.reg reg2)).advance 4) := by
  have hexec : exec (.ldsr reg2 regID selID) s = execLdsr reg2 regID selID s := rfl
  simp [hexec, execLdsr, hum, hr, hp, State.done]

/-- Register 1 of group 5 is MPRC, on a product with the unit (R31). -/
theorem State.sysRegAt_mprc {s : State} (h : s.product.hasMpu = true) : s.sysRegAt 1 5 = some .mprc := by
  have hnumber : sysRegOf 1 5 = some .mprc := rfl
  rw [State.sysRegAt, hnumber]
  simp [Product.hasSysReg, h]

/-- The limits of an area are as before a write to MPRC (R75). -/
theorem State.mpla_writeMprc (s : State) (v : Word) (n : BitVec 4) :
    ((s.writeMprc v).area n).mpla = (s.area n).mpla := by
  rw [State.area_writeMprc]
  split <;> rfl

theorem State.mpua_writeMprc (s : State) (v : Word) (n : BitVec 4) :
    ((s.writeMprc v).area n).mpua = (s.area n).mpua := by
  rw [State.area_writeMprc]
  split <;> rfl

/-- The mask of the enable bit: bit 7. -/
theorem getLsbD_enableBit (k : Nat) : (0x80 : Word).getLsbD k = decide (k = 7) := by
  have h : (0x80 : Word) = BitVec.twoPow 32 7 := by decide
  rw [h, BitVec.getLsbD_twoPow, decide_eq_true (by decide : 7 < 32), Bool.true_and]
  exact decide_eq_decide.2 eq_comm

/-- Bit `k` of MPATn after a write to MPRC (R75). -/
theorem State.getLsbD_mpat_writeMprc (s : State) (v : Word) (n : BitVec 4) (k : Nat) :
    ((s.writeMprc v).area n).mpat.getLsbD k =
      if k = 7 ∧ n ≤ s.product.lastArea then v.getLsbD n.toNat else (s.area n).mpat.getLsbD k := by
  rw [State.area_writeMprc]
  by_cases hn : n ≤ s.product.lastArea
  · simp only [hn, if_true, and_true, getLsbD_mixBits, getLsbD_enableBit]
    by_cases hk : k = 7
    · subst hk
      simp only [decide_true, if_true, BitVec.getLsbD_shiftLeft]
      simp
    · simp only [hk, decide_false, Bool.false_eq_true, if_false]
  · simp only [hn, if_false, and_false]

/-- LDSR to MPRC in supervisor mode, on a product with the unit: the areas and the PC alone. -/
theorem exec_ldsr_mprc {s : State} (reg2 : Reg) (hum : s.psw.um = false) (hmpu : s.product.hasMpu = true) :
    exec (.ldsr reg2 1 5) s =
      .next { s with areas := (s.writeMprc (s.reg reg2)).areas, pc := (s.pc + 4).even } :=
  exec_ldsr_of_supervisor reg2 hum (State.sysRegAt_mprc hmpu) rfl

/-- Settles O59: LDSR to MPRC changes the areas and the PC alone, and of the areas bit 7 of MPAT. -/
theorem areaEnablesWrite : Obligations.AreaEnablesWrite := by
  intro s reg2 hum hmpu
  refine ⟨_, exec_ldsr_mprc reg2 hum hmpu, rfl, fun n => ?areas, fun _ => rfl, rfl, fun _ => rfl, rfl, rfl, rfl, rfl,
    rfl⟩
  exact ⟨s.mpla_writeMprc _ n, s.mpua_writeMprc _ n, fun k _ => s.getLsbD_mpat_writeMprc _ n k⟩

end Sys2Proof.Machine
end
section
/-!
What an instruction answers where its one data access is refused: every instruction of `State.dataAccess` checks that
access first, with a tag that says the row of Table 3-21, and answers the state after the exception.
-/
namespace Sys2Proof.Machine

open Sys2Proof

/-! ### The exception of a refused access -/

/-- A resumable exception with EP = 1, raised after system registers other than EBASE were written: the row of Table 4-1
over the state before those writes. -/
theorem State.raise_acknowledged (s : State) {x : Exception} (y : SysRegs) (fc : Nat) (hfe : x.feLevel = true)
    (hep : x.epAfter = true) (hebv : x.clearsEbv = false) (hbase : y.ebase = s.sys.ebase) :
    Acknowledged s (({ s with sys := y, freeCtr := fc } : State).raise x) (feEntry x.code) y s.pc
      (s.vector s.psw.ebv x.offset) := by
  have hne : ∀ c p, x ≠ .eiint c p := by
    rintro c p rfl
    cases hfe
  have h := ({ s with sys := y, freeCtr := fc } : State).takeException_acknowledged x s.pc hne
  have hvector : ({ s with sys := y, freeCtr := fc } : State).vector s.psw.ebv x.offset =
      s.vector s.psw.ebv x.offset := by
    simp only [State.vector, hbase]
  simp only [hfe, hep, hebv, Bool.not_false, Bool.and_true, hvector] at h
  exact h

/-- MAE over the state before the access (R104, R106). -/
theorem State.raiseMae_acknowledged (s : State) (t : AccessTag) (a : Word) :
    Acknowledged s (s.raiseMae t a) (feEntry 0xC0) { s.sys with mea := a, mei := t.mei } s.pc
      (s.vector s.psw.ebv 0x0C0) :=
  s.raise_acknowledged (x := .mae) { s.sys with mea := a, mei := t.mei } s.freeCtr rfl rfl rfl rfl

/-- MDP over the state before the access (R123, R124). -/
theorem State.raiseMdp_acknowledged (s : State) (t : AccessTag) (um : Bool) (a : Word) (n : Nat) (r w : Bool) :
    Acknowledged s (s.raiseMdp t um a n r w) (feEntry (Exception.mdp (mdpDetail t um (misaligned a n) r w)).code)
      { s.sys with mea := a, mei := t.mei } s.pc (s.vector s.psw.ebv 0x090) :=
  s.raise_acknowledged (x := .mdp _) { s.sys with mea := a, mei := t.mei } s.freeCtr rfl rfl rfl rfl

/-- The cause code of MDP, bit by bit, for an access outside a block transfer (R124). -/
theorem code_mdp_of_not_block {t : AccessTag} (ht : t.block = false) (um ms r w : Bool) :
    (Exception.mdp (mdpDetail t um ms r w)).code =
      (0#7 ++ BitVec.ofBool ms ++ 0#1 ++ BitVec.ofBool t.rmw ++ 0#1 ++ BitVec.ofBool (!um && w) ++
        BitVec.ofBool (!um && r) ++ 0#1 ++ BitVec.ofBool (um && w) ++ BitVec.ofBool (um && r) ++ 0x0091#16) := by
  unfold mdpDetail Exception.code
  rw [ht]
  generalize t.rmw = m
  revert um ms r w m
  decide

/-! ### An access that is refused -/

theorem State.memRead_of_check {s x : State} {t : AccessTag} {um : Bool} {a : Word} {n : Nat}
    (h : s.checkAccess t um true false a n = some x) : s.memRead t um a n = .raised x := by
  rw [State.memRead, h]

theorem State.memWrite_of_check {s x : State} {t : AccessTag} {a : Word} {n : Nat} {v : Dword}
    (h : s.checkAccess t s.psw.um false true a n = some x) : s.memWrite t a n v = .raised x := by
  rw [State.memWrite, h]

theorem State.memModify_of_check {s x : State} {t : AccessTag} {a : Word} {n : Nat} {f : Dword → Dword}
    (h : s.checkAccess t s.psw.um true true a n = some x) : s.memModify t a n f = .raised x := by
  rw [State.memModify, h]

/-! ### Every instruction with one access checks it first -/

/-- `i` starts with the check of the access `x`, under a tag with the MEI row and the read-modify-write mark of `x`:
where the check takes an exception, `i` answers the state after it. -/
def ChecksFirst (i : Instr) (s : State) (x : DataAccess) : Prop :=
  ∃ tag : AccessTag, tag.mei = x.mei ∧ tag.block = false ∧ tag.rmw = (x.reads && x.writes) ∧
    ∀ t, s.checkAccess tag x.um x.reads x.writes x.addr x.size = some t → exec i s = .next t

section

variable {i : Instr} {s : State} {tag : AccessTag} {a mei : Word} {n : Nat}

theorem ChecksFirst.read {um : Bool} {k : Dword → State → Result}
    (he : exec i s = (s.memRead tag um a n).andThen k) (hmei : tag.mei = mei) (hblock : tag.block = false)
    (hrmw : tag.rmw = false) :
    ChecksFirst i s ⟨a, n, true, false, um, mei⟩ :=
  ⟨tag, hmei, hblock, hrmw, fun t ht => by rw [he, State.memRead_of_check ht]; rfl⟩

theorem ChecksFirst.write {v : Dword} {k : Unit → State → Result}
    (he : exec i s = (s.memWrite tag a n v).andThen k) (hmei : tag.mei = mei) (hblock : tag.block = false)
    (hrmw : tag.rmw = false) :
    ChecksFirst i s ⟨a, n, false, true, s.psw.um, mei⟩ :=
  ⟨tag, hmei, hblock, hrmw, fun t ht => by rw [he, State.memWrite_of_check ht]; rfl⟩

theorem ChecksFirst.modify {f : Dword → Dword} {k : Dword → State → Result}
    (he : exec i s = (s.memModify tag a n f).andThen k) (hmei : tag.mei = mei) (hblock : tag.block = false)
    (hrmw : tag.rmw = true) :
    ChecksFirst i s ⟨a, n, true, true, s.psw.um, mei⟩ :=
  ⟨tag, hmei, hblock, hrmw, fun t ht => by rw [he, State.memModify_of_check ht]; rfl⟩

end

/-- The table entry of SYSCALL: four times the number of the entry (R397). -/
theorem State.syscallEntry_eq (s : State) (v : BitVec 8) :
    s.syscallEntry v = s.sys.scbp + 4 * (if v ≤ s.sys.sccfg.setWidth 8 then v else 0).setWidth 32 := by
  have hsize : s.sys.sccfg.extractLsb' 0 8 = s.sys.sccfg.setWidth 8 := by
    ext i hi
    simp
  have hentry : ∀ k : BitVec 8, (k ++ 0#2).setWidth 32 = 4 * k.setWidth 32 := by decide
  unfold State.syscallEntry
  dsimp only
  rw [hsize, hentry]

/-- The instructions of `State.dataAccess` one by one; LD.DW and ST.DW where reg3 is even (R178). -/
theorem checksFirst_of_dataAccess {s : State} {i : Instr} {x : DataAccess} (h : s.dataAccess i = some x) :
    ChecksFirst i s x := by
  cases i with
  | ldB16 | ldB23 | ldBu16 | ldBu23 | ldH16 | ldH23 | ldHu16 | ldHu23 | ldW16 | ldW23 | sldB | sldBu | sldH | sldHu
  | sldW | ldlW | tst1 | tst1Reg | switch | callt =>
    obtain rfl := Option.some.inj h
    exact .read rfl rfl rfl rfl
  | stB16 | stB23 | stH16 | stH23 | stW16 | stW23 | sstB | sstH | sstW | stcW =>
    obtain rfl := Option.some.inj h
    exact .write rfl rfl rfl rfl
  | caxi | set1 | clr1 | not1 | set1Reg | clr1Reg | not1Reg =>
    obtain rfl := Option.some.inj h
    exact .modify rfl rfl rfl rfl
  | ldDw disp reg1 reg3 =>
    by_cases hodd : reg3.getLsbD 0
    · rw [State.dataAccess, if_pos hodd] at h
      cases h
    · rw [State.dataAccess, if_neg hodd] at h
      obtain rfl := Option.some.inj h
      exact .read (if_neg hodd) rfl rfl rfl
  | stDw disp reg1 reg3 =>
    by_cases hodd : reg3.getLsbD 0
    · rw [State.dataAccess, if_pos hodd] at h
      cases h
    · rw [State.dataAccess, if_neg hodd] at h
      obtain rfl := Option.some.inj h
      exact .write (if_neg hodd) rfl rfl rfl
  | syscall v =>
    obtain rfl := Option.some.inj h
    rw [← State.syscallEntry_eq]
    exact .read rfl rfl rfl rfl
  | _ => cases h

/-- Settles O18: the check takes MAE before anything else. -/
theorem misalignedAccessRaises : Obligations.MisalignedAccessRaises := by
  intro s i x hx hmae
  obtain ⟨tag, hmei, _, _, hexec⟩ := checksFirst_of_dataAccess hx
  have hack := s.raiseMae_acknowledged tag x.addr
  rw [hmei] at hack
  exact ⟨_, hexec _ (State.checkAccess_mae hmae), hack, rfl, rfl⟩

/-- Settles O20: past the alignment check, the check takes MDP with the kinds that are refused. -/
theorem refusedAccessRaises : Obligations.RefusedAccessRaises := by
  intro s i x hx hmae r w hrefused
  obtain ⟨tag, hmei, hblock, hrmw, hexec⟩ := checksFirst_of_dataAccess hx
  have hack := s.raiseMdp_acknowledged tag x.um x.addr x.size r w
  rw [hmei, code_mdp_of_not_block hblock, hrmw] at hack
  exact ⟨_, hexec _ (State.checkAccess_mdp hmae hrefused), hack, rfl, rfl⟩

end Sys2Proof.Machine
end

section
/-!
When a data access raises MAE, in numbers: `State.maeApplies` size by size, and the table reads that are always aligned.
-/
namespace Sys2Proof.Machine

open Sys2Proof

/-- Bit 0 of an address is its remainder by 2. -/
theorem getLsbD_zero_iff (a : Word) : a.getLsbD 0 = true ↔ a.toNat % 2 ≠ 0 := by
  rw [BitVec.getLsbD, Nat.testBit_zero, decide_eq_true_eq]
  omega

/-- The low two bits of an address are its remainder by 4. -/
theorem extractLsb'_two_ne_zero_iff (a : Word) : (a.extractLsb' 0 2 != 0) = true ↔ a.toNat % 4 ≠ 0 := by
  rw [bne_iff_ne, ne_eq, extract_eq_iff]
  simp

theorem Product.misalignHw_eq_false {p : Product} {a : Word} {n : Nat} :
    Product.misalignHw p a n = false ↔ ∃ r ∈ p.misalignTraps, r.bytes = n ∧ r.lo ≤ a ∧ a ≤ r.hi := by
  simp [Product.misalignHw, and_assoc]

/-- A misaligned access that is no double-word's raises MAE with MCTL.MA = 0 or where the product does not perform it. -/
theorem State.maeApplies_iff {s : State} {a : Word} {n : Nat} (hn : n ≠ 8) :
    s.maeApplies a n = true ↔ misaligned a n = true ∧
      (s.sys.mctl.getLsbD 1 = false ∨ ∃ r ∈ s.product.misalignTraps, r.bytes = n ∧ r.lo ≤ a ∧ a ≤ r.hi) := by
  simp only [State.maeApplies, Bool.and_eq_true, Bool.or_eq_true, Bool.not_eq_true', beq_iff_eq, hn, or_false,
    Product.misalignHw_eq_false]

/-- A misaligned double-word access always raises MAE. -/
theorem State.maeApplies_dword (s : State) (a : Word) : s.maeApplies a 8 = misaligned a 8 := by
  simp [State.maeApplies]

/-- An aligned access raises no MAE. -/
theorem State.maeApplies_of_aligned {a : Word} {n : Nat} (s : State) (h : misaligned a n = false) :
    s.maeApplies a n = false := by
  rw [State.maeApplies, h, Bool.false_and]

/-! ### The reads of a table -/

/-- SWITCH reads at PC + 2 + 2 x reg1, which is even where the PC is. -/
theorem misaligned_switch {pc : Word} (hpc : pc.getLsbD 0 = false) (v : Word) :
    misaligned (pc + 2#32 + (v <<< 1)) 2 = false := by
  have h2 : (2#32).getLsbD 0 = false := rfl
  have hshift : (v <<< 1).getLsbD 0 = false := by simp
  rw [misaligned, Word.getLsbD_add_zero, Word.getLsbD_add_zero, hpc, h2, hshift]
  rfl

/-- CALLT reads at CTBP + 2 x imm6, and bit 0 of CTBP is 0 (R53). -/
theorem misaligned_callt {ctbp : Word} (hctbp : ctbp.getLsbD 0 = false) (imm6 : BitVec 6) :
    misaligned (ctbp + (imm6 ++ 0#1).setWidth 32) 2 = false := by
  have hentry : ((imm6 ++ 0#1).setWidth 32).getLsbD 0 = false := by
    rw [BitVec.getLsbD_setWidth, BitVec.getLsbD_append]
    simp
  rw [misaligned, Word.getLsbD_add_zero, hctbp, hentry]
  rfl

/-- SYSCALL reads at SCBP + 4 x the entry's number, and bits 1 and 0 of SCBP are 0 (R67). -/
theorem misaligned_syscall {scbp : Word} (hscbp : scbp &&& 3#32 = 0) (v : Word) :
    misaligned (scbp + 4 * v) 4 = false := by
  have hlow : (scbp &&& 3#32).toNat = scbp.toNat % 4 := Nat.and_two_pow_sub_one_eq_mod _ 2
  rw [hscbp] at hlow
  rw [← Bool.not_eq_true]
  intro h
  refine (extractLsb'_two_ne_zero_iff _).1 h ?_
  bv_omega

/-- Settles O19. -/
theorem alignmentRule : Obligations.AlignmentRule := by
  intro s a
  refine ⟨s.maeApplies_of_aligned rfl, ?half, ?word, ?dword, ?table⟩
  case half =>
    rw [State.maeApplies_iff (by decide), ← getLsbD_zero_iff]
    rfl
  case word =>
    rw [State.maeApplies_iff (by decide), ← extractLsb'_two_ne_zero_iff]
    rfl
  case dword =>
    rw [State.maeApplies_dword, ← extractLsb'_two_ne_zero_iff]
    rfl
  case table =>
    intro hlegal i x hx hi
    have hs := (State.legal_iff s).1 hlegal
    apply State.maeApplies_of_aligned
    obtain ⟨r, rfl⟩ | ⟨k, rfl⟩ | ⟨v, rfl⟩ := hi <;> obtain rfl := Option.some.inj hx
    · exact misaligned_switch hs.pc _
    · exact misaligned_callt hs.sys.ctbp k
    · exact misaligned_syscall hs.sys.scbp _

end Sys2Proof.Machine
end

section
/-!
The protection decision for one byte, area by area: the list of `State.mpuAllows` holds the product's areas, and an area
applies and permits by its bits and limits.
-/
namespace Sys2Proof.Machine

open Sys2Proof

/-! ### One area -/

/-- The lower limit as a number: the low two bits taken as 00 (R111). -/
theorem Area.toNat_lo (m : Area) : m.lo.toNat = m.mpla.toNat / 4 * 4 := by
  have h : m.lo = m.mpla.extractLsb' 2 30 ++ 0#2 := by
    apply BitVec.eq_of_getLsbD_eq
    intro i hi
    rw [Area.lo, BitVec.getLsbD_and, BitVec.getLsbD_append]
    interval_cases i <;> simp
  rw [h, toNat_append_eq, BitVec.extractLsb'_toNat, Nat.shiftRight_eq_div_pow]
  simp
  omega

/-- The upper limit as a number: the low two bits taken as 11 (R111). -/
theorem Area.toNat_hi (m : Area) : m.hi.toNat = m.mpua.toNat / 4 * 4 + 3 := by
  have h : m.hi = m.mpua.extractLsb' 2 30 ++ 3#2 := by
    apply BitVec.eq_of_getLsbD_eq
    intro i hi
    rw [Area.hi, BitVec.getLsbD_or, BitVec.getLsbD_append]
    interval_cases i <;> simp
  rw [h, toNat_append_eq, BitVec.extractLsb'_toNat, Nat.shiftRight_eq_div_pow]
  simp
  omega

/-- An area that holds an address has its limits in order, so R115 adds nothing to R112. -/
theorem Area.applies_iff (m : Area) (asid : BitVec 10) (a : Word) :
    m.applies asid a = true ↔
      m.mpat.getLsbD 7 = true ∧ m.mpla.toNat / 4 * 4 ≤ a.toNat ∧ a.toNat ≤ m.mpua.toNat / 4 * 4 + 3 ∧
        (m.mpat.getLsbD 6 = true ∨ m.mpat.extractLsb' 16 10 = asid) := by
  simp only [Area.applies, Bool.and_eq_true, Bool.or_eq_true, decide_eq_true_eq, beq_iff_eq, BitVec.le_def, m.toNat_lo,
    m.toNat_hi]
  constructor
  · rintro ⟨⟨⟨⟨henabled, _⟩, hlo⟩, hhi⟩, hspace⟩
    exact ⟨henabled, hlo, hhi, hspace⟩
  · rintro ⟨henabled, hlo, hhi, hspace⟩
    exact ⟨⟨⟨⟨henabled, hlo.trans hhi⟩, hlo⟩, hhi⟩, hspace⟩

/-- The place of a kind among the three permission bits of a mode (R81, R113). -/
def AccessKind.bit : AccessKind → Nat
  | .read => 0
  | .write => 1
  | .execute => 2

theorem Area.permits_eq (m : Area) (um : Bool) (k : AccessKind) :
    m.permits um k = m.mpat.getLsbD (if um then k.bit else k.bit + 3) := by
  cases k <;> cases um <;> rfl

theorem State.mpuDefault_eq (s : State) (k : AccessKind) : s.mpuDefault k = s.sys.mpm.getLsbD (8 + k.bit) := by
  cases k <;> rfl

/-! ### The product's areas -/

/-- The areas in use are those up to the product's last one (R110). -/
theorem State.mem_areasInUse {s : State} {m : Area} :
    m ∈ s.areasInUse ↔ ∃ n : BitVec 4, n ≤ s.product.lastArea ∧ s.area n = m := by
  simp only [State.areasInUse, List.mem_take_iff_getElem, State.area, BitVec.le_def]
  constructor
  · rintro ⟨i, hi, rfl⟩
    rw [Vector.length_toList] at hi
    refine ⟨BitVec.ofNat 4 i, ?_, ?_⟩
    · simp; omega
    · simp [Nat.mod_eq_of_lt (by omega : i < 16)]
  · rintro ⟨n, hn, rfl⟩
    exact ⟨n.toNat, by rw [Vector.length_toList]; omega, by simp⟩

/-- The decision on the list of areas (R110, R114). -/
theorem State.mpuAllows_iff (s : State) (um : Bool) (k : AccessKind) (a : Word) :
    s.mpuAllows um k a = true ↔
      s.product.hasMpu = false ∨ s.sys.mpm.getLsbD 0 = false ∨ (um = false ∧ s.sys.mpm.getLsbD 1 = false) ∨
      ((∀ m ∈ s.areasInUse, ¬ m.applies (s.sys.asid.extractLsb' 0 10) a = true) ∧ s.mpuDefault k = true) ∨
      ∃ m ∈ s.areasInUse, m.applies (s.sys.asid.extractLsb' 0 10) a = true ∧ m.permits um k = true := by
  unfold State.mpuAllows State.mpe State.svp
  split
  · rename_i hoff
    simp only [Bool.or_eq_true, Bool.not_eq_true'] at hoff
    tauto
  · rename_i hon
    simp only [Bool.or_eq_true, Bool.not_eq_true', not_or] at hon
    split
    · rename_i hsv
      simp only [Bool.and_eq_true, Bool.not_eq_true'] at hsv
      tauto
    · rename_i huser
      simp only [Bool.and_eq_true, Bool.not_eq_true'] at huser
      simp only [hon, huser, Bool.true_eq_false, false_or]
      by_cases hnone : ∀ m ∈ s.areasInUse, ¬ m.applies (s.sys.asid.extractLsb' 0 10) a = true
      · have hempty := List.filter_eq_nil_iff.2 hnone
        have hany : ¬ ∃ m ∈ s.areasInUse, m.applies (s.sys.asid.extractLsb' 0 10) a = true ∧ m.permits um k = true :=
          fun ⟨m, hm, happlies, _⟩ => hnone m hm happlies
        simp only [hempty, List.isEmpty_nil, if_true]
        tauto
      · have hne : (s.areasInUse.filter fun r => r.applies (s.sys.asid.extractLsb' 0 10) a).isEmpty = false :=
          List.isEmpty_eq_false_iff.2 fun h => hnone (List.filter_eq_nil_iff.1 h)
        simp only [hne, hnone, Bool.false_eq_true, if_false, false_and, false_or, List.any_eq_true, List.mem_filter,
          and_assoc]

/-- Settles O21. -/
theorem protectionDecision : Obligations.ProtectionDecision := by
  intro s um k a applies bit
  have hbit : bit = k.bit := by cases k <;> rfl
  have happlies (n : BitVec 4) :
      applies n ↔ n ≤ s.product.lastArea ∧ (s.area n).applies (s.sys.asid.extractLsb' 0 10) a = true := by
    rw [Area.applies_iff]
  rw [State.mpuAllows_iff, hbit]
  simp only [State.mem_areasInUse, happlies, State.mpuDefault_eq, Area.permits_eq, forall_exists_index,
    and_imp, forall_apply_eq_imp_iff₂, exists_exists_and_eq_and, not_and, and_assoc]

end Sys2Proof.Machine
end

section
/-!
No step changes a byte that the protection unit does not let the current mode write. Every update of registers, flags,
PC and system registers leaves memory; every store passes its check first, and so lies beside the byte.
-/
namespace Sys2Proof.Machine

open Sys2Proof

/-! ### What leaves every byte of memory -/

@[simp] theorem State.setProduct_byteAt (s : State) (reg2 reg3 : Reg) (p : Dword) (b : Word) :
    (s.setProduct reg2 reg3 p).byteAt b = s.byteAt b := by
  simp [State.setProduct]

@[simp] theorem State.setPair_byteAt (s : State) (r : BitVec 4) (v : Dword) (b : Word) :
    (s.setPair r v).byteAt b = s.byteAt b := by
  simp [State.setPair]

@[simp] theorem State.setArithFlags_byteAt (s : State) (x : Arith) (b : Word) :
    (s.setArithFlags x).byteAt b = s.byteAt b := rfl

@[simp] theorem State.setSatFlags_byteAt (s : State) (x : Arith) (b : Word) :
    (s.setSatFlags x).byteAt b = s.byteAt b := rfl

@[simp] theorem State.setLogicFlags_byteAt (s : State) (v : Word) (b : Word) :
    (s.setLogicFlags v).byteAt b = s.byteAt b := rfl

@[simp] theorem State.setShiftFlags_byteAt (s : State) (cy : Bool) (v : Word) (b : Word) :
    (s.setShiftFlags cy v).byteAt b = s.byteAt b := rfl

@[simp] theorem State.setArith_byteAt (s : State) (r : Reg) (x : Arith) (b : Word) :
    (s.setArith r x).byteAt b = s.byteAt b := by
  simp [State.setArith]

@[simp] theorem State.setSaturated_byteAt (s : State) (r : Reg) (x : Arith) (b : Word) :
    (s.setSaturated r x).byteAt b = s.byteAt b := by
  simp [State.setSaturated]

@[simp] theorem State.setLogic_byteAt (s : State) (r : Reg) (v : Word) (b : Word) :
    (s.setLogic r v).byteAt b = s.byteAt b := by
  simp [State.setLogic]

@[simp] theorem State.setShifted_byteAt (s : State) (r : Reg) (cy : Bool) (v : Word) (b : Word) :
    (s.setShifted r cy v).byteAt b = s.byteAt b := by
  simp [State.setShifted]

@[simp] theorem State.shiftLeft_byteAt (s : State) (reg2 r : Reg) (n : Nat) (b : Word) :
    (s.shiftLeft reg2 r n).byteAt b = s.byteAt b := s.setShifted_byteAt _ _ _ b

@[simp] theorem State.shiftRight_byteAt (s : State) (reg2 r : Reg) (n : Nat) (b : Word) :
    (s.shiftRight reg2 r n).byteAt b = s.byteAt b := s.setShifted_byteAt _ _ _ b

@[simp] theorem State.shiftArith_byteAt (s : State) (reg2 r : Reg) (n : Nat) (b : Word) :
    (s.shiftArith reg2 r n).byteAt b = s.byteAt b := s.setShifted_byteAt _ _ _ b

@[simp] theorem State.rotate_byteAt (s : State) (reg2 r : Reg) (n : Nat) (b : Word) :
    (s.rotate reg2 r n).byteAt b = s.byteAt b := s.setShifted_byteAt _ _ _ b

@[simp] theorem State.setSwapped_byteAt (s : State) (r : Reg) (v : Word) (cy z : Bool) (b : Word) :
    (s.setSwapped r v cy z).byteAt b = s.byteAt b := by
  simp [State.setSwapped]

@[simp] theorem State.setSearch_byteAt (s : State) (r : Reg) (k : Nat) (b : Word) :
    (s.setSearch r k).byteAt b = s.byteAt b := by
  simp [State.setSearch]

@[simp] theorem State.insertBits_byteAt (s : State) (reg1 reg2 : Reg) (msb lsb : Nat) (b : Word) :
    (s.insertBits reg1 reg2 msb lsb).byteAt b = s.byteAt b := by
  unfold State.insertBits
  split <;> simp

@[simp] theorem State.setDivision_byteAt (s : State) (reg2 reg3 : Reg) (d : Option Division) (b : Word) :
    (s.setDivision reg2 reg3 d).byteAt b = s.byteAt b := by
  unfold State.setDivision
  by_cases hr : reg2 = reg3
  · simp [hr]
  · cases d <;> simp [hr]

@[simp] theorem State.setQuotient_byteAt (s : State) (reg2 : Reg) (d : Option Division) (b : Word) :
    (s.setQuotient reg2 d).byteAt b = s.byteAt b := by
  cases d <;> simp [State.setQuotient]

@[simp] theorem State.takeException_byteAt (s : State) (x : Exception) (ret : Word) (b : Word) :
    (s.takeException x ret).byteAt b = s.byteAt b := rfl

@[simp] theorem State.raise_byteAt (s : State) (x : Exception) (b : Word) :
    (s.raise x).byteAt b = s.byteAt b := rfl

@[simp] theorem State.endOfHandler_byteAt (s : State) (eiLevel : Bool) (b : Word) :
    (s.endOfHandler eiLevel).byteAt b = s.byteAt b := by
  unfold State.endOfHandler
  split
  · rfl
  · dsimp only
    split <;> rfl

@[simp] theorem State.returnTo_byteAt (s : State) (pc psw : Word) (b : Word) :
    (s.returnTo pc psw).byteAt b = s.byteAt b := rfl

@[simp] theorem State.returnEi_byteAt (s : State) (b : Word) : s.returnEi.byteAt b = s.byteAt b := by
  simp [State.returnEi]

@[simp] theorem State.returnFe_byteAt (s : State) (b : Word) : s.returnFe.byteAt b = s.byteAt b := by
  simp [State.returnFe]

/-- LDSR writes no memory. -/
@[simp] theorem State.writeSys_byteAt (s : State) (r : SysReg) (v : Word) (b : Word) :
    (s.writeSys r v).byteAt b = s.byteAt b := by
  cases r with
  | ispr =>
    rw [State.writeSys]
    split <;> rfl
  | _ => rfl

/-- A refused access is answered by MAE or MDP. -/
theorem State.checkAccess_eq_some {s x : State} {t : AccessTag} {um rd wr : Bool} {a : Word} {n : Nat}
    (h : s.checkAccess t um rd wr a n = some x) :
    x = s.raiseMae t a ∨ ∃ r w, x = s.raiseMdp t um a n r w := by
  unfold State.checkAccess at h
  split at h
  · exact .inl (Option.some.inj h).symm
  · dsimp only at h
    split at h
    · exact .inr ⟨_, _, (Option.some.inj h).symm⟩
    · cases h

theorem State.checkAccess_byteAt {s x : State} {t : AccessTag} {um rd wr : Bool} {c : Word} {n : Nat}
    (h : s.checkAccess t um rd wr c n = some x) (b : Word) : x.byteAt b = s.byteAt b := by
  obtain rfl | ⟨r, w, rfl⟩ := State.checkAccess_eq_some h <;> rfl

@[simp] theorem State.idle_byteAt (s : State) (b : Word) : s.idle.byteAt b = s.byteAt b := by
  unfold State.idle
  split <;> rfl

/-! ### What waking and fetching can do -/

/-- A core that goes on differs from the one before in its run state at most. -/
theorem State.wake_eq_some {s t : State} (h : s.wake = some t) : t = s ∨ t = { s with run := .running } := by
  unfold State.wake at h
  split at h
  · exact .inl (Option.some.inj h).symm
  all_goals
    split at h
    · exact .inr (Option.some.inj h).symm
    · cases h

@[simp] theorem State.raiseUndefined_byteAt (s : State) (h1 h2 : Half) (b : Word) :
    (s.raiseUndefined h1 h2).byteAt b = s.byteAt b := by
  unfold State.raiseUndefined
  split <;> rfl

/-- Everything the fetch of an instruction can do: it gives one, it takes an exception that leaves memory, it refuses
the pattern, or it stops at a device. -/
theorem State.fetch_cases (s : State) :
    (∃ i, s.fetch = .instr i s.fetchHalfs.state) ∨
    (∃ t, s.fetch = .raised t ∧ ∀ b, t.byteAt b = s.fetchHalfs.state.byteAt b) ∨
    (∃ r, s.fetch = .refused r) ∨ ∃ f, s.fetch = .stopped f := by
  unfold State.fetch
  dsimp only
  split
  · exact .inr (.inl ⟨_, rfl, fun _ => rfl⟩)
  · split
    · exact .inr (.inl ⟨_, rfl, fun _ => rfl⟩)
    · split
      · exact .inr (.inr (.inr ⟨_, rfl⟩))
      · unfold decodeFetched
        split
        · exact .inl ⟨_, rfl⟩
        · exact .inr (.inr (.inl ⟨_, rfl⟩))
        · exact .inr (.inr (.inl ⟨_, rfl⟩))
        · exact .inr (.inr (.inl ⟨_, rfl⟩))
        · exact .inr (.inr (.inl ⟨_, rfl⟩))
        · exact .inr (.inl ⟨_, rfl, fun b => by simp⟩)
        · exact .inr (.inl ⟨_, rfl, fun b => by simp⟩)

/-! ### The byte, and the refusal that protects it -/

/-- The byte at `a` is `b`, and a write to it is refused in the current mode. -/
structure State.Guards (s : State) (a : Word) (b : Byte) : Prop where
  byte : s.byteAt a = b
  refused : s.mpuAllows s.psw.um .write a = false

/-- Whatever an access leaves has `b` at `a`; one that was made leaves the refusal too, for the accesses after it. -/
def Access.Guards {α : Type} (a : Word) (b : Byte) : Access α → Prop
  | .done _ s => s.Guards a b
  | .raised s => s.byteAt a = b
  | .stopped _ => True

/-- A state that is answered as the next one has `b` at `a`. -/
inductive AnswersByte (a : Word) (b : Byte) : Result → Prop
  | next {t : State} (h : t.byteAt a = b) : AnswersByte a b (.next t)
  | fault (r : Fault) : AnswersByte a b (.fault r)
  | refused (r : Refusal) : AnswersByte a b (.refused r)

theorem Access.Guards.bind {α β : Type} {a : Word} {b : Byte} {x : Access α} {f : α → State → Access β}
    (hx : x.Guards a b) (hf : ∀ v s, s.Guards a b → (f v s).Guards a b) : (x.bind f).Guards a b := by
  cases x with
  | done v s => exact hf v s hx
  | raised s => exact hx
  | stopped r => trivial

theorem Access.Guards.andThen {α : Type} {a : Word} {b : Byte} {x : Access α} {f : α → State → Result}
    (hx : x.Guards a b) (hf : ∀ v s, s.byteAt a = b → AnswersByte a b (f v s)) : AnswersByte a b (x.andThen f) := by
  cases x with
  | done v s => exact hf v s hx.byte
  | raised s => exact .next hx
  | stopped r => exact .fault r

/-- The bytes that a check has permitted lie beside a refused one. -/
theorem State.size_le_of_refused {s : State} {um : Bool} {k : AccessKind} {a c : Word} {n : Nat}
    (hall : s.mpuAllowsAll um k c n = true) (ha : s.mpuAllows um k a = false) : n ≤ (a - c).toNat := by
  by_contra hlt
  have hk := (s.mpuAllowsAll_iff um k c n).1 hall (a - c).toNat (by omega)
  have e : c + BitVec.ofNat 32 (a - c).toNat = a := by bv_omega
  rw [e, ha] at hk
  cases hk

namespace State.Guards

variable {s : State} {a : Word} {b : Byte}

/-- The refusal is a matter of the mode, the product, the system registers and the areas. -/
theorem congr {t : State} (h : s.Guards a b) (hbyte : t.byteAt a = s.byteAt a) (hpsw : t.psw = s.psw)
    (hproduct : t.product = s.product) (hsys : t.sys = s.sys) (hareas : t.areas = s.areas) : t.Guards a b where
  byte := hbyte.trans h.byte
  refused := by
    rw [← h.refused]
    unfold State.mpuAllows State.mpe State.svp State.areasInUse State.mpuDefault
    rw [hpsw, hproduct, hsys, hareas]

theorem setReg (h : s.Guards a b) (r : Reg) (v : Word) : (s.setReg r v).Guards a b :=
  h.congr (by simp) (by simp) (by simp) (by simp) (by simp)

theorem restoreReg (h : s.Guards a b) (r : Reg) (v : Word) : (s.restoreReg r v).Guards a b := by
  unfold State.restoreReg
  split
  · exact h
  · exact h.setReg r v

theorem reportError (h : s.Guards a b) (e : Option (BitVec 4)) : (s.reportError e).Guards a b := by
  obtain ⟨c, hc⟩ := s.reportError_eq e
  rw [hc]
  exact ⟨h.byte, h.refused⟩

/-! ### Data accesses -/

theorem accessRead (h : s.Guards a b) (c : Word) (n : Nat) : (s.accessRead c n).Guards a b := by
  obtain hr | ⟨v, st, fc, e, hr⟩ := s.accessRead_cases c n <;> rw [hr]
  · trivial
  · exact ⟨h.byte, h.refused⟩

theorem memRead (h : s.Guards a b) (t : AccessTag) (um : Bool) (c : Word) (n : Nat) :
    (s.memRead t um c n).Guards a b := by
  unfold State.memRead
  split
  · rename_i x hx
    exact (State.checkAccess_byteAt hx a).trans h.byte
  · exact h.accessRead c n

theorem writeLE (h : s.Guards a b) {c : Word} {n : Nat} (v : Dword) (hn : n ≤ 8) (hout : n ≤ (a - c).toNat) :
    (s.writeLE c v n).Guards a b := by
  refine h.congr (s.byteAt_writeLE_of_le c v n (by omega) a hout) ?_ ?_ ?_ ?_ <;> rw [State.writeLE_frame]

theorem writeMixed (h : s.Guards a b) {c : Word} {n : Nat} (v : Dword) (hn : n ≤ 8) (hout : n ≤ (a - c).toNat) :
    (s.writeMixed c v n).Guards a b := by
  refine h.congr (s.byteAt_writeMixed_of_le c v n (by omega) a hout) ?_ ?_ ?_ ?_ <;> rw [State.writeMixed_frame]

/-- A write to bytes beside `a`. -/
theorem accessWrite (h : s.Guards a b) {c : Word} {n : Nat} (v : Dword) (hn : n ≤ 8)
    (hout : n ≤ (a - c).toNat) : (s.accessWrite c n v).Guards a b := by
  unfold State.accessWrite
  split
  · exact h.writeLE v hn hout
  · split
    · trivial
    · exact (h.writeMixed v hn hout).reportError _

theorem memWrite (h : s.Guards a b) (t : AccessTag) (c : Word) {n : Nat} (v : Dword) (hn : n ≤ 8) :
    (s.memWrite t c n v).Guards a b := by
  unfold State.memWrite
  split
  · rename_i x hx
    exact (State.checkAccess_byteAt hx a).trans h.byte
  · rename_i hcheck
    obtain ⟨_, _, hwrite⟩ := State.checkAccess_none.1 hcheck
    exact h.accessWrite v hn (State.size_le_of_refused (hwrite rfl) h.refused)

/-- The write is checked before the read (decision D25), so the check still speaks of the state that writes. -/
theorem memModify (h : s.Guards a b) (t : AccessTag) (c : Word) {n : Nat} (f : Dword → Dword) (hn : n ≤ 8) :
    (s.memModify t c n f).Guards a b := by
  unfold State.memModify
  split
  · rename_i x hx
    exact (State.checkAccess_byteAt hx a).trans h.byte
  · rename_i hcheck
    obtain ⟨_, _, hwrite⟩ := State.checkAccess_none.1 hcheck
    have hout := State.size_le_of_refused (hwrite rfl) h.refused
    exact (h.accessRead c n).bind fun v s hs => (hs.accessWrite (f v) hn hout).bind fun _ _ ht => ht

/-- A block that is stopped midway has stored beside `a` too (R375, decision D31). -/
theorem storeBlock (h : s.Guards a b) (t : AccessTag) (tmp : Word) (rs : List Reg) :
    (s.storeBlock t tmp rs).Guards a b := by
  induction rs generalizing s tmp with
  | nil => exact h
  | cons r rest ih => exact (h.memWrite t _ _ (by decide)).bind fun _ _ hs => ih hs _

theorem loadBlock (h : s.Guards a b) (t : AccessTag) (tmp : Word) (rs : List Reg) :
    (s.loadBlock t tmp rs).Guards a b := by
  induction rs generalizing s tmp with
  | nil => exact h
  | cons r rest ih => exact (h.memRead t _ _ 4).bind fun v _ hs => ih (hs.restoreReg r v.low) _

theorem prepareFrame (h : s.Guards a b) (imm5 : BitVec 5) (list12 : BitVec 12) :
    (s.prepareFrame imm5 list12).Guards a b :=
  (h.storeBlock _ _ _).bind fun _ _ hs => hs.setReg sp _

theorem disposeFrame (h : s.Guards a b) (imm5 : BitVec 5) (list12 : BitVec 12) :
    (s.disposeFrame imm5 list12).Guards a b :=
  h.loadBlock _ _ _

/-! ### Instructions -/

theorem loadReg (h : s.Guards a b) (t : AccessTag) (c : Word) (n : Nat) (ext : Dword → Word) (r : Reg) (len : Nat) :
    AnswersByte a b (s.loadReg t c n ext r len) :=
  (h.memRead t _ c n).andThen fun _ _ hs => .next (by simpa using hs)

theorem storeReg (h : s.Guards a b) (t : AccessTag) (c : Word) {n : Nat} (r : Reg) (len : Nat) (hn : n ≤ 8) :
    AnswersByte a b (s.storeReg t c n r len) :=
  (h.memWrite t c _ hn).andThen fun _ _ hs => .next hs

theorem changeBit (h : s.Guards a b) (c : Word) (bit : BitVec 3) (f : Dword → Dword → Dword) :
    AnswersByte a b (s.changeBit c bit f) :=
  (h.memModify _ c _ (by decide)).andThen fun _ _ hs => .next hs

theorem testBit (h : s.Guards a b) (c : Word) (bit : BitVec 3) : AnswersByte a b (s.testBit c bit) :=
  (h.memRead _ _ c 1).andThen fun _ _ hs => .next hs

/-- PREPARE: what follows the frame writes ep at most. -/
theorem prepare (h : s.Guards a b) (imm5 : BitVec 5) (list12 : BitVec 12) (v : State → Word) (len : Nat) :
    AnswersByte a b ((s.prepareFrame imm5 list12).andThen fun _ s => (s.setReg ep (v s)).done len) :=
  (h.prepareFrame imm5 list12).andThen fun _ _ hs => .next (by simpa using hs)

end State.Guards

section

variable {s : State} {a : Word} {b : Byte}

theorem State.answersByte_done (h : s.byteAt a = b) (n : Nat) : AnswersByte a b (s.done n) := .next h

theorem State.answersByte_jump (h : s.byteAt a = b) (target : Word) : AnswersByte a b (s.jump target) := .next h

theorem State.answersByte_branch {c : Prop} [Decidable c] (h : s.byteAt a = b) (target : Word) (n : Nat) :
    AnswersByte a b (if c then s.jump target else s.done n) := by
  split
  · exact State.answersByte_jump h target
  · exact State.answersByte_done h n

theorem State.answersByte_privileged {k : State → Result} (h : s.byteAt a = b) 
    (hk : ∀ s : State, s.byteAt a = b → AnswersByte a b (k s)) :
    AnswersByte a b (s.privileged k) := by
  unfold State.privileged
  split
  · exact .next h
  · exact hk s h

theorem State.answersByte_setId (h : s.byteAt a = b) (id : Bool) : AnswersByte a b (s.setId id) := by
  unfold State.setId
  split <;> exact .next h

theorem answersByte_execLoop (h : s.byteAt a = b) (reg1 : Reg) (disp : BitVec 15) :
    AnswersByte a b (execLoop reg1 disp s) := by
  unfold execLoop
  generalize add32 (s.reg reg1) 0xFFFFFFFF false = x
  have ht : (s.setArith reg1 x).byteAt a = b := (s.setArith_byteAt reg1 x a).trans h
  dsimp only
  split
  · exact State.answersByte_done ht 4
  · exact State.answersByte_jump ht _

theorem answersByte_execLdsr (h : s.byteAt a = b) (reg2 : Reg) (regID selID : BitVec 5) :
    AnswersByte a b (execLdsr reg2 regID selID s) := by
  unfold execLdsr
  dsimp only
  split
  · exact .next h
  · split
    · exact .refused _
    · cases s.sysRegAt regID selID <;> exact .next (by simpa using h)

theorem answersByte_execStsr (h : s.byteAt a = b) (regID : BitVec 5) (reg2 : Reg) (selID : BitVec 5) :
    AnswersByte a b (execStsr regID reg2 selID s) := by
  unfold execStsr
  dsimp only
  split
  · exact .next h
  · cases s.sysRegAt regID selID <;> exact .next (by simpa using h)

end

namespace State.Guards

variable {s : State} {a : Word} {b : Byte}

theorem execLdDw (h : s.Guards a b) (disp : BitVec 22) (reg1 reg3 : Reg) :
    AnswersByte a b (execLdDw disp reg1 reg3 s) := by
  unfold Machine.execLdDw
  split
  · exact .refused _
  · exact (h.memRead _ _ _ 8).andThen fun _ _ hs => .next (by simpa using hs)

theorem execStDw (h : s.Guards a b) (disp : BitVec 22) (reg1 reg3 : Reg) :
    AnswersByte a b (execStDw disp reg1 reg3 s) := by
  unfold Machine.execStDw
  split
  · exact .refused _
  · exact (h.memWrite _ _ _ (by decide)).andThen fun _ _ hs => .next hs

/-- Every instruction answers a state that has the byte, if any. -/
theorem exec (h : s.Guards a b) (i : Instr) : AnswersByte a b (exec i s) := by
  have hb := h.byte
  cases i with
  -- loads and stores
  | ldB16 | ldB23 | ldBu16 | ldBu23 | ldH16 | ldH23 | ldHu16 | ldHu23 | ldW16 | ldW23 | sldB | sldBu | sldH | sldHu
  | sldW | ldlW => exact h.loadReg _ _ _ _ _ _
  | stB16 | stB23 | stH16 | stH23 | stW16 | stW23 | sstB | sstH | sstW | stcW => exact h.storeReg _ _ _ _ (by decide)
  | ldDw => exact h.execLdDw _ _ _
  | stDw => exact h.execStDw _ _ _
  -- bits of memory
  | clr1 | clr1Reg | not1 | not1Reg | set1 | set1Reg => exact h.changeBit _ _ _
  | tst1 | tst1Reg => exact h.testBit _ _
  | caxi => exact (h.memModify _ _ _ (by decide)).andThen fun _ _ hs => .next (by simpa using hs)
  -- tables and stack frames
  | callt | switch => exact (h.memRead _ _ _ 2).andThen fun _ _ hs => .next hs
  | syscall => exact (h.memRead _ _ _ 4).andThen fun _ _ hs => .next hs
  | prepare => exact (h.prepareFrame _ _).andThen fun _ _ hs => .next hs
  | prepareSp => exact h.prepare _ _ (fun s => s.reg sp) 4
  | prepareImmLo | prepareImmHi | prepareImm32 => exact h.prepare _ _ (fun _ => _) _
  | dispose | disposeJmp => exact (h.disposeFrame _ _).andThen fun _ _ hs => .next (by simpa using hs)
  | pushsp => exact (h.storeBlock _ _ _).andThen fun _ _ hs => .next (by simpa using hs)
  | popsp => exact (h.loadBlock _ _ _).andThen fun _ _ hs => .next (by simpa using hs)
  -- registers, flags, PC and system registers alone
  | mul | mulImm | mulh | mulhImm | mulhi | mulu | muluImm | mac | macu | addReg | addImm | addi | cmpReg | cmpImm
  | movReg | movImm5 | movImm32 | movea | movhi | sub | subr | adf | sbf | satadd | sataddImm | satadd3 | satsub
  | satsub3 | satsubi | satsubr | andReg | andi | notReg | orReg | ori | tst | xorReg | xori | binsHh | binsHl | binsLl
  | bsh | bsw | cmov | cmovImm | hsh | hsw | rotlImm | rotl | sar | sarImm | sar3 | sasf | setf | shl | shlImm | shl3
  | shr | shrImm | shr3 | sxb | sxh | zxb | zxh | sch0l | sch0r | sch1l | sch1r | div | divh2 | divh3 | divhu | divu
  | divq | divqu | jarl22 | jarl32 | jarlReg | jmpReg | jmp32 | jr22 | jr32 | cll | rie | rieImm | fetrap | trap
  | nop | synce | syncm | syncp | cache | pref => exact .next (by simpa using hb)
  | ctret | snooze | synci => exact .next hb
  | bcond9 | bcond17 => exact State.answersByte_branch hb _ _
  | loop reg1 disp => exact answersByte_execLoop hb reg1 disp
  | eiret | feret => exact State.answersByte_privileged hb fun s hs => .next (by simpa using hs)
  | halt => exact State.answersByte_privileged hb fun s hs =>
    State.answersByte_done (s := { s with run := .halted }) hs 4
  | di | ei => exact State.answersByte_setId hb _
  | ldsr => exact answersByte_execLdsr hb _ _ _
  | stsr => exact answersByte_execStsr hb _ _ _

/-! ### The step -/

theorem fetchHalfs (h : s.Guards a b) : s.fetchHalfs.state.Guards a b := by
  obtain ⟨fc, hfc, _⟩ := s.fetchHalfs_cases
  rw [hfc]
  exact ⟨h.byte, h.refused⟩

theorem runInstruction (h : s.Guards a b) : AnswersByte a b (runInstruction s) := by
  have hf := h.fetchHalfs
  unfold Machine.runInstruction
  obtain ⟨i, hi⟩ | ⟨t, ht, hraised⟩ | ⟨r, hr⟩ | ⟨f, hs⟩ := s.fetch_cases
  · rw [hi]
    exact hf.exec i
  · rw [ht]
    exact .next ((hraised a).trans hf.byte)
  · rw [hr]
    exact .refused r
  · rw [hs]
    exact .fault f

theorem acknowledgeEiint (h : s.Guards a b) (r : EiintRequest) : AnswersByte a b (s.acknowledgeEiint r) := by
  unfold State.acknowledgeEiint
  split
  · exact (h.memRead _ _ _ 4).andThen fun _ _ hs => .next hs
  · exact .next h.byte

theorem acknowledge (h : s.Guards a b) {r : Result} (hr : s.acknowledge = some r) : AnswersByte a b r := by
  unfold State.acknowledge at hr
  split at hr
  · obtain rfl := Option.some.inj hr
    exact .next h.byte
  · split at hr
    · obtain rfl := Option.some.inj hr
      exact .next h.byte
    · split at hr
      · obtain rfl := Option.some.inj hr
        exact .next h.byte
      · split at hr
        · obtain rfl := Option.some.inj hr
          exact h.acknowledgeEiint _
        · cases hr

theorem wake (h : s.Guards a b) {t : State} (ht : s.wake = some t) : t.Guards a b := by
  obtain rfl | rfl := State.wake_eq_some ht
  · exact h
  · exact ⟨h.byte, h.refused⟩

end State.Guards

/-- Every step keeps a byte that may not be written: the reset input, idling, an acknowledged exception, an
instruction. -/
theorem State.Guards.step {s : State} {a : Word} {b : Byte} (h : s.Guards a b) : AnswersByte a b (step s) := by
  unfold Machine.step
  split
  · exact .next h.byte
  · split
    · exact .next (by simpa using h.byte)
    · rename_i t ht
      have hs := h.wake ht
      split
      · rename_i r hr
        exact hs.acknowledge hr
      · exact hs.runInstruction

/-- Settles O23: a state whose byte at `a` is refused guards it, and every operation a step is made of keeps it. -/
theorem protectedBytesKept : Obligations.ProtectedBytesKept := by
  intro s t a hrefused ht
  have h := State.Guards.step ⟨rfl, hrefused⟩
  rw [ht] at h
  cases h with
  | next h => exact h

end Sys2Proof.Machine
end

section
/-!
The fetch that ends in an exception. Where nothing is to be acknowledged the step fetches; the fetch checks the
execution permission of every byte of the instruction first, then its fetch errors, whatever the bytes decode to.
-/
namespace Sys2Proof.Machine

open Sys2Proof

/-! ### A step with nothing to acknowledge -/

/-- PMR or a request in service of the same or a higher priority masks a request (R433). -/
theorem State.eiintMasked_iff (s : State) (p : BitVec 3) :
    s.eiintMasked p = true ↔
      s.sys.pmr.getLsbD p.toNat = true ∨ ∃ k ≤ p.toNat, s.sys.ispr.getLsbD k = true := by
  have hmask : ∀ (q : BitVec 3), ∀ k < 8, (0xFF#8 >>> (7 - q.toNat)).getLsbD k = decide (k ≤ q.toNat) := by decide
  have hbit : ∀ k, (s.sys.ispr.setWidth 8 &&& (0xFF#8 >>> (7 - p.toNat))).getLsbD k =
      (decide (k ≤ p.toNat) && s.sys.ispr.getLsbD k) := by
    intro k
    by_cases hk : k < 8
    · rw [BitVec.getLsbD_and, BitVec.getLsbD_setWidth, hmask p k hk, decide_eq_true hk, Bool.true_and, Bool.and_comm]
    · have hgt : ¬ k ≤ p.toNat := by omega
      rw [BitVec.getLsbD_of_ge _ _ (by omega), decide_eq_false hgt, Bool.false_and]
  simp only [State.eiintMasked, Bool.or_eq_true, bne_iff_ne, ne_eq]
  refine or_congr Iff.rfl ⟨fun hne => ?_, ?_⟩
  · by_contra hnone
    refine hne (BitVec.eq_of_getLsbD_eq fun k _ => ?_)
    rw [hbit]
    by_cases hk : k ≤ p.toNat
    · have : s.sys.ispr.getLsbD k = false := by
        rw [← Bool.not_eq_true]
        exact fun h => hnone ⟨k, hk, h⟩
      simp [this]
    · simp [hk]
  · rintro ⟨k, hk, hset⟩ hzero
    have := hbit k
    simp [hzero, hk, hset] at this

/-- No EIINT request is acknowledged where every one that stands is disabled or masked. -/
theorem State.eiintCandidate_eq_none {s : State} (h : NothingToAcknowledge s) : s.eiintCandidate = none := by
  obtain ⟨_, _, _, heiint⟩ := h
  unfold State.eiintCandidate
  split
  · rfl
  · rename_i henabled
    simp only [Bool.or_eq_true, not_or, Bool.not_eq_true] at henabled
    have hall : ∀ r ∈ s.eiintRequests, ¬ (!s.eiintMasked r.priority) = true := by
      intro r hr
      have hstands := State.mem_eiintRequests.1 hr
      have hmasked := heiint r hstands.1 hstands
      simp only [henabled, Bool.false_eq_true, false_or] at hmasked
      simp [(s.eiintMasked_iff r.priority).2 hmasked]
    rw [List.filter_eq_nil_iff.2 hall]
    rfl

theorem State.acknowledge_eq_none {s : State} (h : NothingToAcknowledge s) : s.acknowledge = none := by
  have heiint := State.eiintCandidate_eq_none h
  obtain ⟨hfenmi, hsyserr, hfeint, _⟩ := h
  have hnosyserr : s.syserrRequest = none :=
    Option.eq_none_iff_forall_not_mem.2 fun c hc => hsyserr c (State.syserrRequest_eq_some.1 hc)
  have hnofeint : (s.req.feint && !s.psw.np) = false := by
    obtain hf | hnp := hfeint
    · rw [hf, Bool.false_and]
    · rw [hnp, Bool.not_true, Bool.and_false]
  simp [State.acknowledge, hfenmi, hnosyserr, hnofeint, heiint]

/-- The step of a running core with nothing to acknowledge (R400 steps 4 to 8). -/
theorem step_of_runsNext {s : State} (h : RunsNext s) : step s = runInstruction s := by
  obtain ⟨hreset, hrun, hnothing⟩ := h
  have hwake : s.wake = some s := by rw [State.wake, hrun]
  simp [step, hreset, hwake, State.acknowledge_eq_none hnothing]

/-! ### The exception of a fetch -/

/-- MIP over the state before the fetch: MEA takes the PC, MEI is not written (R121, R125). -/
theorem step_acknowledges_mip {s : State} (h : RunsNext s)
    (hx : s.mpuAllowsAll s.psw.um .execute s.pc s.fetchHalfs.length = false) :
    ∃ t, step s = .next t ∧
      Acknowledged s t (feEntry 0x90) { s.sys with mea := s.pc } s.pc (s.vector s.psw.ebv 0x090) ∧ t.req = s.req := by
  obtain ⟨fc, hstate, _⟩ := s.fetchHalfs_cases
  have hfetch : s.fetch = .raised s.fetchHalfs.state.raiseMip := by simp [State.fetch, hx]
  refine ⟨s.fetchHalfs.state.raiseMip, by rw [step_of_runsNext h, runInstruction, hfetch], ?_⟩
  rw [hstate]
  exact ⟨s.raise_acknowledged (x := .mip) { s.sys with mea := s.pc } fc rfl rfl rfl rfl, rfl⟩

/-- SYSERR over the state before the fetch: from RBASE, with EBV cleared (R412, decision D16). -/
theorem step_acknowledges_fetchError {s : State} {c : BitVec 4} (h : RunsNext s)
    (hx : s.mpuAllowsAll s.psw.um .execute s.pc s.fetchHalfs.length = true)
    (hc : s.fetchError s.pc s.fetchHalfs.length = some c) :
    ∃ t, step s = .next t ∧
      Acknowledged s t ⟨true, 0x10 + c.setWidth 32, true, true⟩ s.sys s.pc (s.vector false 0x010) ∧ t.req = s.req := by
  obtain ⟨fc, hstate, _⟩ := s.fetchHalfs_cases
  have hfetch : s.fetch = .raised (s.fetchHalfs.state.raise (.syserr c)) := by simp [State.fetch, hx, hc]
  refine ⟨s.fetchHalfs.state.raise (.syserr c), by rw [step_of_runsNext h, runInstruction, hfetch], ?_⟩
  rw [hstate]
  have hack := ({ s with freeCtr := fc } : State).takeException_acknowledged (.syserr c) s.pc nofun
  have hclears : (Exception.syserr c).clearsEbv = true := rfl
  rw [hclears, Bool.not_true, Bool.and_false] at hack
  exact ⟨hack, rfl⟩

/-! ### Some of the bytes -/

/-- Where all of the bytes are permitted, the first of them are. -/
theorem State.mpuAllowsAll_mono {s : State} {um : Bool} {k : AccessKind} {a : Word} {m n : Nat} (hmn : m ≤ n)
    (h : s.mpuAllowsAll um k a n = true) : s.mpuAllowsAll um k a m = true :=
  (s.mpuAllowsAll_iff um k a m).2 fun i hi => (s.mpuAllowsAll_iff um k a n).1 h i (hi.trans_le hmn)

/-- Where all of the bytes are memory, those from a later one on are. -/
theorem State.plainAll_of_le {s : State} {a : Word} {j m n : Nat} (hmn : j + m ≤ n) (h : s.plainAll a n = true) :
    s.plainAll (a + BitVec.ofNat 32 j) m = true := by
  refine (s.plainAll_iff _ m).2 fun i hi => ?_
  have e : a + BitVec.ofNat 32 j + BitVec.ofNat 32 i = a + BitVec.ofNat 32 (j + i) := by
    rw [BitVec.ofNat_add, BitVec.add_assoc]
  rw [e]
  exact (s.plainAll_iff a n).1 h (j + i) (by omega)

/-! ### The length of the instruction that is fetched -/

/-- The first halfword says whether there is a second; then there are whole halfwords, four bytes or more (R160,
R161). -/
theorem instrLength_two_or_four_le (h1 : Half) :
    (∀ h2, instrLength h1 h2 = 2) ∨ ∀ h2, 4 ≤ instrLength h1 h2 := by
  simp only [instrLength_eq]
  by_cases hshort : h1.toNat / 512 % 4 ≠ 3
  · by_cases hlong : h1.toNat / 32 % 64 = 23 ∧ h1.toNat / 2048 = 0
    · exact .inr fun h2 => by rw [lenNat_jarl32 hlong.1 hlong.2]; decide
    · exact .inl fun h2 => lenNat_two hshort (not_and_or.1 hlong)
  · refine .inr fun h2 => ?_
    unfold lenNat
    rw [if_neg hshort]
    repeat' split
    all_goals decide

/-- The length that a fetch finds: that of the first halfword, or of the first two (R161). -/
theorem State.fetchHalfs_length (s : State) :
    s.fetchHalfs.length =
      if instrLength (s.fetchHalf s.pc).1 0 ≤ 2 then 2
      else instrLength (s.fetchHalf s.pc).1 ((s.fetchHalf s.pc).2.fetchHalf (s.pc + 2)).1 := by
  simp only [State.fetchHalfs]
  repeat' split
  all_goals rfl

/-- In memory, and not stored since the last SYNCI sequence, an instruction is fetched with the length that it has
there. -/
theorem State.fetchHalfs_length_of_plain {s : State} {n : Nat}
    (hn : n = instrLength (s.halfAt s.pc) (s.halfAt (s.pc + 2))) (hplain : s.plainAll s.pc n = true)
    (hstale : ∀ e ∈ s.stale, n ≤ (e.addr - s.pc).toNat) : s.fetchHalfs.length = n := by
  obtain ⟨hmin, _⟩ := instrLength_bounds (s.halfAt s.pc) (s.halfAt (s.pc + 2))
  have hfirst : s.fetchHalf s.pc = (s.halfAt s.pc, s) :=
    State.fetchHalf_of_plain (by simpa using State.plainAll_of_le (j := 0) (m := 2) (by omega) hplain)
      fun e he => by have := hstale e he; omega
  rw [State.fetchHalfs_length, hfirst]
  obtain htwo | hfour := instrLength_two_or_four_le (s.halfAt s.pc)
  · rw [if_pos (htwo 0).le, hn, htwo]
  · have hlong := hfour (s.halfAt (s.pc + 2))
    have hsecond : s.fetchHalf (s.pc + 2) = (s.halfAt (s.pc + 2), s) :=
      State.fetchHalf_of_plain (State.plainAll_of_le (j := 2) (m := 2) (by omega) hplain)
        fun e he => by have := hstale e he; bv_omega
    have hmore : ¬ instrLength (s.halfAt s.pc) 0 ≤ 2 := by
      have := hfour 0
      omega
    rw [if_neg hmore, hsecond, hn]

/-- Settles O9: the step fetches, and the fetch finds two to eight bytes; where the instruction is memory as it stands,
exactly its own. -/
theorem executionProtectionRaisesMip : Obligations.ExecutionProtectionRaisesMip := by
  intro s hs mip syserr
  obtain ⟨_, _, hmin, hmax⟩ := s.fetchHalfs_cases
  have error {n : Nat} (hn : n ≤ s.fetchHalfs.length)
      (hx : s.mpuAllowsAll s.psw.um .execute s.pc s.fetchHalfs.length = true) : syserr n :=
    fun k hk c hc hfirst => step_acknowledges_fetchError hs hx
      (State.fetchError_eq_some.2 ⟨k, hk.trans_le hn, hc, hfirst⟩)
  refine ⟨fun htwo => ?_, fun hall => error hmin (State.mpuAllowsAll_mono hmax hall), ?_⟩
  · refine step_acknowledges_mip hs ?_
    rw [← Bool.not_eq_true] at htwo ⊢
    exact mt (State.mpuAllowsAll_mono hmin) htwo
  · intro n hn hplain hstale
    have hlength := State.fetchHalfs_length_of_plain hn hplain hstale
    rw [← hlength]
    exact ⟨step_acknowledges_mip hs, error le_rfl⟩

end Sys2Proof.Machine
end

section
/-!
LEMMAS. The layouts of spec/30_encoding.md as equations between fields: a halfword is a given row of fields exactly
where each of its fields has the value that stands there. The encoder writes such rows and the decoder reads such
fields, so these equations turn a statement about the one into a statement about the other.
-/
namespace Sys2Proof

/-! ### Single bits -/

@[simp] theorem extractLsb'_one_eq_one {w : Nat} (h : BitVec w) (k : Nat) :
    h.extractLsb' k 1 = 1#1 ↔ h.getLsbD k = true := by
  rw [extract_eq_iff, BitVec.getLsbD, Nat.testBit_eq_decide_div_mod_eq]
  simp

@[simp] theorem extractLsb'_one_eq_zero {w : Nat} (h : BitVec w) (k : Nat) :
    h.extractLsb' k 1 = 0#1 ↔ h.getLsbD k = false := by
  rw [extract_eq_iff, BitVec.getLsbD, Nat.testBit_eq_decide_div_mod_eq]
  simp

section
variable (h : Half)

/-!
### A halfword is the row of its fields

`append_m_n` is the row of fields of `m` and `n` bits, the high one first.
-/

@[simp] theorem append_5_11 (w : BitVec 5) (sub : BitVec 11) : w ++ sub = h ↔ fieldHigh h = w ∧ fieldSub h = sub := by
  simp only [fieldHigh, fieldSub, ← BitVec.toNat_inj, toNat_append_eq, BitVec.extractLsb'_toNat,
    Nat.shiftRight_eq_div_pow]
  omega

@[simp] theorem append_5_6_5 (a : BitVec 5) (c : BitVec 6) (b : BitVec 5) :
    a ++ c ++ b = h ↔ fieldHigh h = a ∧ fieldOp h = c ∧ fieldLow h = b := by
  simp only [fieldHigh, fieldOp, fieldLow, ← BitVec.toNat_inj, toNat_append_eq, BitVec.extractLsb'_toNat,
    Nat.shiftRight_eq_div_pow]
  omega

@[simp] theorem append_5_4_7 (a : BitVec 5) (c : BitVec 4) (d : BitVec 7) :
    a ++ c ++ d = h ↔ fieldHigh h = a ∧ fieldOp4 h = c ∧ h.extractLsb' 0 7 = d := by
  simp only [fieldHigh, fieldOp4, ← BitVec.toNat_inj, toNat_append_eq, BitVec.extractLsb'_toNat,
    Nat.shiftRight_eq_div_pow]
  omega

@[simp] theorem append_5_7_4 (a : BitVec 5) (c : BitVec 7) (d : BitVec 4) :
    a ++ c ++ d = h ↔ fieldHigh h = a ∧ h.extractLsb' 4 7 = c ∧ fieldLow4 h = d := by
  simp only [fieldHigh, fieldLow4, ← BitVec.toNat_inj, toNat_append_eq, BitVec.extractLsb'_toNat,
    Nat.shiftRight_eq_div_pow]
  omega

@[simp] theorem append_5_4_6_1 (a : BitVec 5) (c : BitVec 4) (d : BitVec 6) (e : BitVec 1) :
    a ++ c ++ d ++ e = h ↔ fieldHigh h = a ∧ fieldOp4 h = c ∧ h.extractLsb' 1 6 = d ∧ h.extractLsb' 0 1 = e := by
  simp only [fieldHigh, fieldOp4, ← BitVec.toNat_inj, toNat_append_eq, BitVec.extractLsb'_toNat,
    Nat.shiftRight_eq_div_pow]
  omega

@[simp] theorem append_5_4_3_4 (a : BitVec 5) (c : BitVec 4) (b : BitVec 3) (d : BitVec 4) :
    a ++ c ++ b ++ d = h ↔ fieldHigh h = a ∧ fieldOp4 h = c ∧ h.extractLsb' 4 3 = b ∧ fieldLow4 h = d := by
  simp only [fieldHigh, fieldOp4, fieldLow4, ← BitVec.toNat_inj, toNat_append_eq, BitVec.extractLsb'_toNat,
    Nat.shiftRight_eq_div_pow]
  omega

@[simp] theorem append_5_6_1_4 (a : BitVec 5) (c : BitVec 6) (e : BitVec 1) (d : BitVec 4) :
    a ++ c ++ e ++ d = h ↔ fieldHigh h = a ∧ fieldOp h = c ∧ h.extractLsb' 4 1 = e ∧ fieldLow4 h = d := by
  simp only [fieldHigh, fieldOp, fieldLow4, ← BitVec.toNat_inj, toNat_append_eq, BitVec.extractLsb'_toNat,
    Nat.shiftRight_eq_div_pow]
  omega

@[simp] theorem append_5_5_1_5 (a : BitVec 5) (c : BitVec 5) (e : BitVec 1) (b : BitVec 5) :
    a ++ c ++ e ++ b = h ↔ fieldHigh h = a ∧ h.extractLsb' 6 5 = c ∧ h.extractLsb' 5 1 = e ∧ fieldLow h = b := by
  simp only [fieldHigh, fieldLow, ← BitVec.toNat_inj, toNat_append_eq, BitVec.extractLsb'_toNat,
    Nat.shiftRight_eq_div_pow]
  omega

@[simp] theorem append_5_5_6 (a : BitVec 5) (c : BitVec 5) (x : BitVec 6) :
    a ++ c ++ x = h ↔ fieldHigh h = a ∧ h.extractLsb' 6 5 = c ∧ h.extractLsb' 0 6 = x := by
  simp only [fieldHigh, ← BitVec.toNat_inj, toNat_append_eq, BitVec.extractLsb'_toNat, Nat.shiftRight_eq_div_pow]
  omega

@[simp] theorem append_5_5_5_1 (a : BitVec 5) (c : BitVec 5) (x : BitVec 5) (l : BitVec 1) :
    a ++ c ++ x ++ l = h ↔ fieldHigh h = a ∧ h.extractLsb' 6 5 = c ∧ fieldImm5 h = x ∧ h.extractLsb' 0 1 = l := by
  simp only [fieldHigh, fieldImm5, ← BitVec.toNat_inj, toNat_append_eq, BitVec.extractLsb'_toNat,
    Nat.shiftRight_eq_div_pow]
  omega

@[simp] theorem append_10_6 (c : BitVec 10) (x : BitVec 6) :
    c ++ x = h ↔ fieldHigh h = c.extractLsb' 5 5 ∧ h.extractLsb' 6 5 = c.extractLsb' 0 5 ∧ h.extractLsb' 0 6 = x := by
  simp only [fieldHigh, ← BitVec.toNat_inj, toNat_append_eq, BitVec.extractLsb'_toNat, Nat.shiftRight_eq_div_pow]
  omega

@[simp] theorem append_2_3_6_5 (x : BitVec 2) (b3 : BitVec 3) (c : BitVec 6) (b : BitVec 5) :
    x ++ b3 ++ c ++ b = h ↔ h.extractLsb' 14 2 = x ∧ h.extractLsb' 11 3 = b3 ∧ fieldOp h = c ∧ fieldLow h = b := by
  simp only [fieldOp, fieldLow, ← BitVec.toNat_inj, toNat_append_eq, BitVec.extractLsb'_toNat,
    Nat.shiftRight_eq_div_pow]
  omega

@[simp] theorem append_3_2_6_5 (x : BitVec 3) (y : BitVec 2) (c : BitVec 6) (b : BitVec 5) :
    x ++ y ++ c ++ b = h ↔ h.extractLsb' 13 3 = x ∧ h.extractLsb' 11 2 = y ∧ fieldOp h = c ∧ fieldLow h = b := by
  simp only [fieldOp, fieldLow, ← BitVec.toNat_inj, toNat_append_eq, BitVec.extractLsb'_toNat,
    Nat.shiftRight_eq_div_pow]
  omega

@[simp] theorem append_1_4_11 (e : BitVec 1) (v : BitVec 4) (c : BitVec 11) :
    e ++ v ++ c = h ↔ h.extractLsb' 15 1 = e ∧ h.extractLsb' 11 4 = v ∧ fieldOp h = c.extractLsb' 5 6 ∧
      fieldLow h = c.extractLsb' 0 5 := by
  simp only [fieldOp, fieldLow, ← BitVec.toNat_inj, toNat_append_eq, BitVec.extractLsb'_toNat,
    Nat.shiftRight_eq_div_pow]
  omega

@[simp] theorem append_15_1 (d : BitVec 15) (e : BitVec 1) : d ++ e = h ↔ field15 h = d ∧ h.extractLsb' 0 1 = e := by
  simp only [field15, ← BitVec.toNat_inj, toNat_append_eq, BitVec.extractLsb'_toNat, Nat.shiftRight_eq_div_pow]
  omega

@[simp] theorem append_5_5_4_2 (a : BitVec 5) (c : BitVec 5) (d : BitVec 4) (e : BitVec 2) :
    a ++ c ++ d ++ e = h ↔ fieldHigh h = a ∧ h.extractLsb' 6 5 = c ∧ h.extractLsb' 2 4 = d ∧
      h.extractLsb' 1 1 = e.extractLsb' 1 1 ∧ h.extractLsb' 0 1 = e.extractLsb' 0 1 := by
  simp only [fieldHigh, ← BitVec.toNat_inj, toNat_append_eq, BitVec.extractLsb'_toNat, Nat.shiftRight_eq_div_pow]
  omega

@[simp] theorem append_4_1_6_4_1 (a : BitVec 4) (e : BitVec 1) (c : BitVec 6) (d : BitVec 4) (e' : BitVec 1) :
    a ++ e ++ c ++ d ++ e' = h ↔ fieldTop4 h = a ∧ h.extractLsb' 11 1 = e ∧ fieldOp h = c ∧ fieldCond h = d ∧
      h.extractLsb' 0 1 = e' := by
  simp only [fieldTop4, fieldOp, fieldCond, ← BitVec.toNat_inj, toNat_append_eq, BitVec.extractLsb'_toNat,
    Nat.shiftRight_eq_div_pow]
  omega

@[simp] theorem append_5_6_4_1 (a : BitVec 5) (c : BitVec 6) (d : BitVec 4) (e : BitVec 1) :
    a ++ c ++ d ++ e = h ↔ fieldHigh h = a ∧ fieldOp h = c ∧ fieldCond h = d ∧ h.extractLsb' 0 1 = e := by
  simp only [fieldHigh, fieldOp, fieldCond, ← BitVec.toNat_inj, toNat_append_eq, BitVec.extractLsb'_toNat,
    Nat.shiftRight_eq_div_pow]
  omega

@[simp] theorem append_4_1_7_3_1 (a : BitVec 4) (e : BitVec 1) (c : BitVec 7) (d : BitVec 3) (e' : BitVec 1) :
    a ++ e ++ c ++ d ++ e' = h ↔ fieldTop4 h = a ∧ h.extractLsb' 11 1 = e ∧ h.extractLsb' 4 7 = c ∧
      h.extractLsb' 1 3 = d ∧ h.extractLsb' 0 1 = e' := by
  simp only [fieldTop4, ← BitVec.toNat_inj, toNat_append_eq, BitVec.extractLsb'_toNat, Nat.shiftRight_eq_div_pow]
  omega

@[simp] theorem append_11_5 (x : BitVec 11) (b : BitVec 5) : x ++ b = h ↔ h.extractLsb' 5 11 = x ∧ fieldLow h = b := by
  simp only [fieldLow, ← BitVec.toNat_inj, toNat_append_eq, BitVec.extractLsb'_toNat, Nat.shiftRight_eq_div_pow]
  omega

@[simp] theorem append_2_3_11 (x : BitVec 2) (v : BitVec 3) (sub : BitVec 11) :
    x ++ v ++ sub = h ↔ h.extractLsb' 14 2 = x ∧ h.extractLsb' 11 3 = v ∧ fieldSub h = sub := by
  simp only [fieldSub, ← BitVec.toNat_inj, toNat_append_eq, BitVec.extractLsb'_toNat, Nat.shiftRight_eq_div_pow]
  omega

/-- A halfword of fixed digits, field by field. -/
theorem ofNat_eq_iff (n : Nat) :
    BitVec.ofNat 16 n = h ↔ fieldHigh h = (BitVec.ofNat 16 n).extractLsb' 11 5 ∧
      fieldOp h = (BitVec.ofNat 16 n).extractLsb' 5 6 ∧ fieldLow h = (BitVec.ofNat 16 n).extractLsb' 0 5 := by
  have hfields := (append_5_6_5 (BitVec.ofNat 16 n) _ _ _).2 ⟨rfl, rfl, rfl⟩
  exact (Eq.congr_left hfields.symm).trans (append_5_6_5 h _ _ _)

/-! ### Fields of fields -/

theorem fieldOp4_eq : fieldOp4 h = (fieldOp h).extractLsb' 2 4 := by
  simp only [fieldOp4, fieldOp, ← BitVec.toNat_inj, BitVec.extractLsb'_toNat, Nat.shiftRight_eq_div_pow]
  omega

theorem fieldOp4_eq_extract : fieldOp4 h = (h.extractLsb' 6 5).extractLsb' 1 4 := by
  simp only [fieldOp4, ← BitVec.toNat_inj, BitVec.extractLsb'_toNat, Nat.shiftRight_eq_div_pow]
  omega

theorem fieldLow_eq_iff_1_4 (r : BitVec 5) :
    fieldLow h = r ↔ h.extractLsb' 4 1 = r.extractLsb' 4 1 ∧ fieldLow4 h = r.extractLsb' 0 4 := by
  simp only [fieldLow, fieldLow4, ← BitVec.toNat_inj, BitVec.extractLsb'_toNat, Nat.shiftRight_eq_div_pow]
  omega

theorem fieldSub_eq_iff_6_5 (sub : BitVec 11) :
    fieldSub h = sub ↔ fieldOp h = sub.extractLsb' 5 6 ∧ fieldLow h = sub.extractLsb' 0 5 := by
  simp only [fieldSub, fieldOp, fieldLow, ← BitVec.toNat_inj, BitVec.extractLsb'_toNat, Nat.shiftRight_eq_div_pow]
  omega

/-- Some of the low bits of a value are the same bits of the value. -/
theorem extract_extract_zero {w m n l : Nat} (x : BitVec w) (hl : n + l ≤ m) :
    (x.extractLsb' 0 m).extractLsb' n l = x.extractLsb' n l := by
  refine BitVec.eq_of_getLsbD_eq fun k hk => ?_
  have hm : n + k < m := by omega
  simp [hk, hm]

theorem extract_fieldLow (n l : Nat) (hl : n + l ≤ 5) : (fieldLow h).extractLsb' n l = h.extractLsb' n l :=
  extract_extract_zero h hl

theorem extract_fieldLow4 (n l : Nat) (hl : n + l ≤ 4) : (fieldLow4 h).extractLsb' n l = h.extractLsb' n l :=
  extract_extract_zero h hl

theorem extract_fieldSub (n l : Nat) (hl : n + l ≤ 11) : (fieldSub h).extractLsb' n l = h.extractLsb' n l :=
  extract_extract_zero h hl

theorem extract_0_4 : h.extractLsb' 0 4 = fieldLow4 h := rfl

theorem getElem_zero_eq_fieldLow : h[0] = (fieldLow h)[0] := by simp [fieldLow]

theorem getElem_zero_eq_fieldLow4 : h[0] = (fieldLow4 h)[0] := by simp [fieldLow4]

theorem getElem_zero_eq_fieldSub : h[0] = (fieldSub h)[0] := by simp [fieldSub]

theorem extract_6_5 : h.extractLsb' 6 5 = (fieldOp h).extractLsb' 1 5 := by
  simp only [fieldOp, ← BitVec.toNat_inj, BitVec.extractLsb'_toNat, Nat.shiftRight_eq_div_pow]
  omega

theorem fieldOp_eq_iff_5_1 (c : BitVec 6) :
    fieldOp h = c ↔ h.extractLsb' 6 5 = c.extractLsb' 1 5 ∧ h.extractLsb' 5 1 = c.extractLsb' 0 1 := by
  simp only [fieldOp, ← BitVec.toNat_inj, BitVec.extractLsb'_toNat, Nat.shiftRight_eq_div_pow]
  omega

theorem extract_4_7_eq_iff (c : BitVec 7) :
    h.extractLsb' 4 7 = c ↔ fieldOp h = c.extractLsb' 1 6 ∧ h.extractLsb' 4 1 = c.extractLsb' 0 1 := by
  simp only [fieldOp, ← BitVec.toNat_inj, BitVec.extractLsb'_toNat, Nat.shiftRight_eq_div_pow]
  omega

theorem fieldSub_eq_iff (sub : BitVec 11) :
    fieldSub h = sub ↔ fieldOp h = sub.extractLsb' 5 6 ∧ fieldCond h = sub.extractLsb' 1 4 ∧
      h.extractLsb' 0 1 = sub.extractLsb' 0 1 := by
  simp only [fieldSub, fieldOp, fieldCond, ← BitVec.toNat_inj, BitVec.extractLsb'_toNat, Nat.shiftRight_eq_div_pow]
  omega

theorem fieldHigh_eq_iff_1_4 (r : BitVec 5) :
    fieldHigh h = r ↔ h.extractLsb' 15 1 = r.extractLsb' 4 1 ∧ h.extractLsb' 11 4 = r.extractLsb' 0 4 := by
  simp only [fieldHigh, ← BitVec.toNat_inj, BitVec.extractLsb'_toNat, Nat.shiftRight_eq_div_pow]
  omega

theorem fieldHigh_eq_iff_3_2 (r : BitVec 5) :
    fieldHigh h = r ↔ h.extractLsb' 13 3 = r.extractLsb' 2 3 ∧ h.extractLsb' 11 2 = r.extractLsb' 0 2 := by
  simp only [fieldHigh, ← BitVec.toNat_inj, BitVec.extractLsb'_toNat, Nat.shiftRight_eq_div_pow]
  omega

theorem fieldLow_eq_iff_2_3 (r : BitVec 5) :
    fieldLow h = r ↔ h.extractLsb' 3 2 = r.extractLsb' 3 2 ∧ h.extractLsb' 0 3 = r.extractLsb' 0 3 := by
  simp only [fieldLow, ← BitVec.toNat_inj, BitVec.extractLsb'_toNat, Nat.shiftRight_eq_div_pow]
  omega

theorem extract_5_6 : h.extractLsb' 5 6 = fieldOp h := rfl

/-! ### Operands that are split over two fields -/

/-- Two values joined are `d` exactly where they are its upper and its lower bits. -/
theorem append_eq_iff {m n : Nat} (x : BitVec m) (y : BitVec n) (d : BitVec (m + n)) :
    x ++ y = d ↔ d.extractLsb' n m = x ∧ d.extractLsb' 0 n = y := by
  constructor
  · rintro rfl
    exact ⟨BitVec.extractLsb'_append_eq_left, BitVec.extractLsb'_append_eq_right⟩
  · rintro ⟨rfl, rfl⟩
    rw [BitVec.extractLsb'_append_extractLsb'_eq_extractLsb' (Nat.zero_add n).symm, BitVec.extractLsb'_eq_self]

theorem fieldDisp23_eq_iff (h2 h3 : Half) (d : BitVec 23) :
    fieldDisp23 h2 h3 = d ↔ d.extractLsb' 7 16 = h3 ∧ d.extractLsb' 0 7 = h2.extractLsb' 4 7 := append_eq_iff ..

theorem fieldDisp22_eq_iff (h2 h3 : Half) (d : BitVec 22) :
    fieldDisp22 h2 h3 = d ↔ d.extractLsb' 6 16 = h3 ∧ d.extractLsb' 0 6 = fieldOp h2 := append_eq_iff ..

theorem fieldDisp31_eq_iff (h2 h3 : Half) (d : BitVec 31) :
    fieldDisp31 h2 h3 = d ↔ d.extractLsb' 15 16 = h3 ∧ d.extractLsb' 0 15 = field15 h2 := append_eq_iff ..

theorem fieldDisp21_eq_iff (h1 h2 : Half) (d : BitVec 21) :
    fieldDisp21 h1 h2 = d ↔ d.extractLsb' 15 6 = h1.extractLsb' 0 6 ∧ d.extractLsb' 0 15 = field15 h2 :=
  append_eq_iff ..

theorem fieldBinsLsb_eq_iff (h : Half) (d : BitVec 4) :
    fieldBinsLsb h = d ↔ d.extractLsb' 3 1 = h.extractLsb' 11 1 ∧ d.extractLsb' 0 3 = h.extractLsb' 1 3 :=
  append_eq_iff ..

theorem fieldImm9_eq_iff (h1 h2 : Half) (d : BitVec 9) :
    fieldImm9 h1 h2 = d ↔ d.extractLsb' 5 4 = h2.extractLsb' 2 4 ∧ d.extractLsb' 0 5 = fieldLow h1 := append_eq_iff ..

theorem fieldList_eq_iff (h1 h2 : Half) (d : BitVec 12) :
    fieldList h1 h2 = d ↔ d.extractLsb' 1 11 = h2.extractLsb' 5 11 ∧ d.extractLsb' 0 1 = h1.extractLsb' 0 1 :=
  append_eq_iff ..

end

end Sys2Proof
end

section
/-!
LEMMAS. From the decoder to the encoder: what a decoding function answers is a well-formed instruction, and the
halfwords that were decoded begin with its encoding (spec/30_encoding.md R177 to R186). One lemma per decoding function.
-/
namespace Sys2Proof

/-! ### Halfwords that begin with an instruction -/

/-- `i` is well formed and the halfwords `hs` begin with its encoding. -/
@[simp] def Instr.Begins (i : Instr) (hs : List Half) : Prop := i.wellFormed = true ∧ encode i <+: hs

/-- What `r` decodes to, if it is an instruction, is what the halfwords `hs` begin with. -/
def Reads (hs : List Half) (r : Except DecodeError Instr) : Prop := ∀ i, r = .ok i → i.Begins hs

section
variable {hs : List Half}

@[simp] theorem reads_error (e : DecodeError) : Reads hs (.error e) := nofun

@[simp] theorem reads_ok {i : Instr} : Reads hs (.ok i) ↔ i.Begins hs :=
  ⟨fun h => h i rfl, fun h _ hi => Except.ok.inj hi ▸ h⟩

@[simp] theorem reads_ite {c : Prop} [Decidable c] {r r' : Except DecodeError Instr} :
    Reads hs (if c then r else r') ↔ (c → Reads hs r) ∧ (¬ c → Reads hs r') := by
  split <;> simp [*]

@[simp] theorem reads_requireBits {b : Bool} {i : Instr} : Reads hs (requireBits b i) ↔ (b = true → i.Begins hs) := by
  cases b <;> simp [requireBits]

end

/-! ### Facts about fields that single rows need -/

theorem Cond.ofBits_eq_iff (b : BitVec 4) (cond : Cond) : Cond.ofBits b = cond ↔ b = cond.toBits := by
  revert b
  cases cond <;> decide

@[simp] theorem Cond.toBits_ofBits (b : BitVec 4) : (Cond.ofBits b).toBits = b :=
  ((Cond.ofBits_eq_iff b _).1 rfl).symm

@[simp] theorem Cond.toBits_t : Cond.t.toBits = 0b0101#4 := rfl

@[simp] theorem Cond.toBits_sa : Cond.sa.toBits = 0b1101#4 := rfl

/-- The last of four cases on two bits. -/
theorem eq_three_of_ne : ∀ x : BitVec 2, x ≠ 0 → x ≠ 1 → x ≠ 2 → x = 3 := by decide

/-- The first halfword of CLL as a row of the fields of CACHE, which shares its sub-opcode. -/
theorem eq_cll_iff (h : Half) :
    h = 0xFFFF#16 ↔ h.extractLsb' 13 3 = 0b111#3 ∧ h.extractLsb' 11 2 = 0b11#2 ∧ fieldOp h = 0b111111#6 ∧
      fieldLow h = 0b11111#5 := by
  rw [← append_3_2_6_5, eq_comm]
  rfl

section
variable {h1 h2 h3 h4 : Half}

/-! ### The rows of the major opcode 111111 -/

theorem reads_decodeSystem (hop : fieldOp h1 = 0b111111#6) (hsub : fieldSub h2 = 0b00101100000#11) :
    Reads [h1, h2, h3, h4] (decodeSystem h1 h2) := by
  unfold decodeSystem
  split
  case h_8 =>
    have hcacheop (c : BitVec 7) := append_eq_iff (h1.extractLsb' 11 2) (fieldHigh h2) c
    simp +contextual [hop, hsub, hcacheop, (hcacheop _).1 rfl, eq_cll_iff, fieldHigh_eq_iff_3_2 h1, Instr.wellFormed,
      encode, -BitVec.reduceAppend]
    rintro - hcll
    by_cases hlow : fieldLow h1 = 31#5
    · exact .inl fun hcacheop hhigh => hcll hcacheop.symm hlow hhigh.symm
    · exact .inr hlow
  all_goals
    simp +contextual [*, Instr.wellFormed, encode, (append_eq_iff (h2.extractLsb' 11 3) (fieldLow h1) _).1 rfl,
      -BitVec.reduceAppend]

theorem reads_decodeExtendedFixed (hop : fieldOp h1 = 0b111111#6) :
    Reads [h1, h2, h3, h4] (decodeExtendedFixed h1 h2) := by
  unfold decodeExtendedFixed
  split
  case h_22 hsub => exact reads_decodeSystem hop hsub
  case h_1 hsub =>
    rw [fieldSub_eq_iff_6_5] at hsub
    simp +contextual [hop, hsub, fieldSub_eq_iff_6_5, extract_4_7_eq_iff, ofNat_eq_iff, Instr.wellFormed, encode,
      -BitVec.reduceAppend]
  all_goals
    simp +contextual [*, Instr.wellFormed, encode, -BitVec.reduceAppend]

theorem reads_decodeExtended (hop : fieldOp h1 = 0b111111#6) (hbit : h2[0] = false) :
    Reads [h1, h2, h3, h4] (decodeExtended h1 h2) := by
  unfold decodeExtended
  rw [extract_5_6]
  split
  case h_9 =>
    split
    case h_4 => exact reads_decodeExtendedFixed hop
    all_goals
      simp [*, Instr.wellFormed, encode, (fieldBinsLsb_eq_iff h2 _).1 rfl, -BitVec.reduceAppend]
  all_goals
    simp +contextual [*, Instr.wellFormed, encode, (fieldImm9_eq_iff h1 h2 _).1 rfl, Cond.ofBits_eq_iff _ .sa,
      extract_6_5, fieldSub_eq_iff, -BitVec.reduceAppend]

theorem reads_decode111111 (hop : fieldOp h1 = 0b111111#6) : Reads [h1, h2, h3, h4] (decode111111 h1 h2) := by
  unfold decode111111
  split
  case isTrue hbit =>
    have hbit' : h2[0] = true := hbit
    simp +contextual [hop, hbit', Instr.wellFormed, encode, Cond.ofBits_eq_iff _ .t,
      (append_eq_iff (h1.extractLsb' 4 1) (field15 h2) _).1 rfl, -BitVec.reduceAppend]
  case isFalse hbit => exact reads_decodeExtended hop (by simpa [bit16] using hbit)

/-! ### The rows of the major opcode 11110x -/

theorem begins_decodePrepare2 (hop : h1.extractLsb' 6 5 = 0b11110#5) (hhigh : fieldHigh h1 = 0)
    (h : h2.extractLsb' 0 3 = 0b011#3) : (decodePrepare2 h1 h2 h3 h4).Begins [h1, h2, h3, h4] := by
  unfold decodePrepare2
  split
  case h_4 hne0 hne1 hne2 =>
    simp [eq_three_of_ne _ hne0 hne1 hne2, hop, hhigh, h, Instr.wellFormed, encode, fieldLow_eq_iff_2_3,
      (fieldList_eq_iff h1 h2 _).1 rfl, (append_eq_iff h4 h3 _).1 rfl, -BitVec.reduceAppend]
  all_goals
    simp [*, Instr.wellFormed, encode, fieldLow_eq_iff_2_3, (fieldList_eq_iff h1 h2 _).1 rfl, -BitVec.reduceAppend]

theorem reads_decodeLong (hop : h1.extractLsb' 6 5 = 0b11110#5) (hhigh : fieldHigh h1 = 0) :
    Reads [h1, h2, h3, h4] (decodeLong h1 h2 h3 h4) := by
  simp only [decodeLong, reads_ite, beq_iff_eq, Bool.and_eq_true, Bool.not_eq_true']
  refine ⟨fun hlow => ?prepare, fun _ => ⟨fun hlow => ?prepare2, fun _ => ⟨fun hlow => ?loadByte,
    fun _ => ⟨fun ⟨hlow, hbit⟩ => ?storeByte, fun _ => ⟨fun hbit => ?odd, fun hbit => ?even⟩⟩⟩⟩⟩
  case prepare =>
    simp [hop, hhigh, hlow, Instr.wellFormed, encode, (fieldList_eq_iff h1 h2 _).1 rfl, -BitVec.reduceAppend]
  case prepare2 => exact reads_ok.2 (begins_decodePrepare2 hop hhigh hlow)
  case odd | even =>
    split
    all_goals
      simp_all [Instr.wellFormed, encode, (fieldDisp22_eq_iff h2 h3 _).1 rfl, fieldOp_eq_iff_5_1 h1,
        -BitVec.reduceAppend]
  case loadByte | storeByte =>
    simp_all [Instr.wellFormed, encode, (fieldDisp23_eq_iff h2 h3 _).1 rfl, fieldOp_eq_iff_5_1 h1, fieldLow4,
      -BitVec.reduceAppend]

theorem reads_decode11110 (hop : h1.extractLsb' 6 5 = 0b11110#5) :
    Reads [h1, h2, h3, h4] (decode11110 h1 h2 h3 h4) := by
  simp only [decode11110]
  split
  case isTrue hbit =>
    split
    case isTrue hhigh => exact reads_decodeLong hop (by simpa using hhigh)
    case isFalse =>
      simp_all [bit16, Instr.wellFormed, encode, (append_eq_iff (field15 h2) (h1.extractLsb' 5 1) _).1 rfl,
        -BitVec.reduceAppend]
  case isFalse hbit =>
    simp_all +contextual [bit16, Instr.wellFormed, encode, (fieldDisp21_eq_iff h1 h2 _).1 rfl, -BitVec.reduceAppend]

/-! ### The rows of the other major opcodes -/

theorem reads_decodeNop (hop : fieldOp h1 = 0) (hhigh : fieldHigh h1 = 0) :
    Reads [h1, h2, h3, h4] (decodeNop (fieldLow h1)) := by
  unfold decodeNop
  split
  all_goals
    simp [*, ofNat_eq_iff, Instr.wellFormed, encode, -BitVec.reduceAppend]

theorem reads_decode000010 (hop : fieldOp h1 = 0b000010#6) : Reads [h1, h2, h3, h4] (decode000010 h1) := by
  unfold decode000010
  simp +contextual [*, ofNat_eq_iff, Instr.wellFormed, encode, fieldHigh_eq_iff_1_4, -BitVec.reduceAppend]

theorem begins_decodeBit (hop : fieldOp h1 = 0b111110#6) : (decodeBit h1 h2).Begins [h1, h2, h3, h4] := by
  unfold decodeBit
  split
  case h_4 hne0 hne1 hne2 =>
    simp [hop, eq_three_of_ne _ hne0 hne1 hne2, Instr.wellFormed, encode, -BitVec.reduceAppend]
  all_goals
    simp [*, Instr.wellFormed, encode, -BitVec.reduceAppend]

theorem reads_decodeDispose (hop : h1.extractLsb' 6 5 = 0b11001#5) (hhigh : fieldHigh h1 = 0) :
    Reads [h1, h2, h3, h4] (decodeMajor.decodeDispose h1 h2) := by
  unfold decodeMajor.decodeDispose
  simp +contextual [*, Instr.wellFormed, encode, (fieldList_eq_iff h1 h2 _).1 rfl, -BitVec.reduceAppend]

theorem reads_decodeMajor : Reads [h1, h2, h3, h4] (decodeMajor h1 h2 h3 h4) := by
  simp only [decodeMajor]
  split
  case h_3 hop => exact reads_decode000010 hop
  case h_24 hop =>
    by_cases hlow : fieldLow h1 = 0#5
    all_goals
      simp +contextual [hop, hlow, bit16, Instr.wellFormed, encode, (fieldDisp31_eq_iff h2 h3 _).1 rfl,
        -BitVec.reduceAppend]
  case h_37 hop | h_38 hop => exact reads_decode11110 (by rw [extract_6_5, hop]; rfl)
  case h_39 hop => exact reads_ok.2 (begins_decodeBit hop)
  case h_40 hop => exact reads_decode111111 hop
  all_goals
    simp +contextual [*, bit16, Instr.wellFormed, encode, reads_decodeNop, extract_6_5, extract_4_7_eq_iff h1,
      reads_decodeDispose, (append_eq_iff h3 h2 _).1 rfl, (fieldDisp31_eq_iff h2 h3 _).1 rfl, -BitVec.reduceAppend]

/-- The decoder answers only instructions that its halfwords begin with. -/
theorem reads_decodeHalfs : Reads [h1, h2, h3, h4] (decodeHalfs h1 h2 h3 h4) := by
  simp only [decodeHalfs]
  split
  case h_7 => exact reads_decodeMajor
  all_goals
    simp +contextual [*, Instr.wellFormed, encode, (append_eq_iff (fieldHigh h1) (h1.extractLsb' 4 3) _).1 rfl,
      -BitVec.reduceAppend]

end

end Sys2Proof
end

section
/-!
LEMMAS. From the encoder to the decoder: halfwords that begin with the encoding of a well-formed instruction are decoded
to it (spec/30_encoding.md R180 to R186). The rows are taken in the order of the decoder's levels: the major opcodes
11110x and 111111, then all others.
-/
namespace Sys2Proof

/-! ### Facts about fields that single rows need -/

@[simp] theorem Cond.ofBits_toBits (cond : Cond) : Cond.ofBits cond.toBits = cond := (Cond.ofBits_eq_iff _ _).2 rfl

theorem Cond.toBits_eq_iff (b : BitVec 4) (cond : Cond) : cond.toBits = b ↔ cond = Cond.ofBits b := by
  rw [eq_comm, ← Cond.ofBits_eq_iff, eq_comm]

@[simp] theorem Cond.ofBits_5 : Cond.ofBits 0b0101#4 = .t := rfl

@[simp] theorem Cond.ofBits_13 : Cond.ofBits 0b1101#4 = .sa := rfl

/-- An operand that is split over two fields is put together again. -/
theorem extract_append_extract {m n : Nat} (d : BitVec (m + n)) : d.extractLsb' n m ++ d.extractLsb' 0 n = d :=
  (append_eq_iff _ _ d).2 ⟨rfl, rfl⟩

/-- A major opcode of five bits is two of six bits. -/
theorem fieldOp_of_extract_6_5 {h : Half} {c : BitVec 5} (hc : h.extractLsb' 6 5 = c) :
    fieldOp h = c ++ 0#1 ∨ fieldOp h = c ++ 1#1 := by
  have hbit : ∀ e : BitVec 1, e = 0#1 ∨ e = 1#1 := by decide
  refine (hbit (h.extractLsb' 5 1)).imp (fun he => ?_) (fun he => ?_) <;>
    rw [fieldOp_eq_iff_5_1, hc, he, BitVec.extractLsb'_append_eq_left, BitVec.extractLsb'_append_eq_right] <;>
    exact ⟨rfl, rfl⟩

section
variable {h1 h2 h3 h4 : Half}

/-! ### The rows of the major opcode 11110x -/

theorem decode11110_of_begins {i : Instr} (hop : h1.extractLsb' 6 5 = 0b11110#5) (h : i.Begins [h1, h2, h3, h4]) :
    decode11110 h1 h2 h3 h4 = .ok i := by
  cases i
  all_goals
    simp [Instr.wellFormed, encode, hop, fieldOp_eq_iff_5_1 h1, extract_4_7_eq_iff h1, fieldOp4_eq_extract,
      ofNat_eq_iff, -BitVec.reduceAppend] at h
  case jr22 | jarl22 =>
    simp [decode11110, bit16, fieldDisp21_eq_iff, h]
  case ldBu16 disp _ _ =>
    have hdisp : disp.extractLsb' 1 15 ++ disp.extractLsb' 0 1 = disp := extract_append_extract ..
    simp [decode11110, bit16, h, hdisp]
  case prepare =>
    simp [decode11110, decodeLong, bit16, getElem_zero_eq_fieldLow h2, fieldList_eq_iff, h]
  case prepareSp | prepareImmLo | prepareImmHi =>
    simp [decode11110, decodeLong, decodePrepare2, bit16, getElem_zero_eq_fieldLow h2, fieldList_eq_iff,
      ← extract_fieldLow h2 0 3, ← extract_fieldLow h2 3 2, h]
  case prepareImm32 imm32 =>
    have himm : h4 ++ h3 = imm32 := by
      obtain ⟨-, -, hlow, hhigh⟩ := h
      exact (append_eq_iff ..).2 ⟨hhigh, hlow⟩
    simp [decode11110, decodeLong, decodePrepare2, bit16, getElem_zero_eq_fieldLow h2, fieldList_eq_iff,
      ← extract_fieldLow h2 0 3, ← extract_fieldLow h2 3 2, h, himm]
  case ldB23 | ldBu23 | stB23 =>
    simp [decode11110, decodeLong, bit16, getElem_zero_eq_fieldLow4 h2, fieldDisp23_eq_iff, fieldLow_eq_iff_1_4,
      extract_0_4, ← extract_fieldLow4 h2 0 3, h]
  case ldDw | ldH23 | ldHu23 | ldW23 | stDw | stH23 | stW23 =>
    simp [decode11110, decodeLong, bit16, getElem_zero_eq_fieldLow h2, fieldDisp22_eq_iff, ← extract_fieldLow h2 0 3,
      ← extract_fieldLow h2 0 4, h]

/-! ### The rows of the major opcode 111111 -/

/-- A sub-opcode that is no other row's with an operand in some of its bits: `decodeExtended` leaves it to
`decodeExtendedFixed`. -/
def isFixedSub (sub : BitVec 11) : Bool :=
  !sub[0] && !([0b010010#6, 0b010011#6, 0b011000#6, 0b011001#6, 0b011100#6, 0b011101#6, 0b011110#6,
      0b011111#6].contains (sub.extractLsb' 5 6)) &&
    !([0b0001001#7, 0b0001011#7, 0b0001101#7].contains (sub.extractLsb' 4 7))

theorem decode111111_eq_decodeExtended (hbit : h2[0] = false) : decode111111 h1 h2 = decodeExtended h1 h2 := by
  simp [decode111111, bit16, hbit]

theorem decode111111_eq_decodeExtendedFixed (hfixed : isFixedSub (fieldSub h2) = true) :
    decode111111 h1 h2 = decodeExtendedFixed h1 h2 := by
  simp [isFixedSub, extract_fieldSub, ← getElem_zero_eq_fieldSub] at hfixed
  obtain ⟨⟨hbit, hop2⟩, hbins⟩ := hfixed
  rw [decode111111_eq_decodeExtended hbit]
  simp only [decodeExtended]
  split <;> simp_all

/-- CLL and CACHE: bits 15 to 13 of the first halfword are 111 in no other row of `decodeSystem`. -/
theorem decodeSystem_of_111 (hhigh : h1.extractLsb' 13 3 = 0b111#3) :
    decodeSystem h1 h2 = if h1 = 0xFFFF#16 ∧ fieldHigh h2 = 0b11110#5 then .ok .cll
      else .ok (.cache (h1.extractLsb' 11 2 ++ fieldHigh h2) (fieldLow h1)) := by
  unfold decodeSystem
  split
  case h_8 => simp [hhigh]
  all_goals simp_all [fieldHigh_eq_iff_3_2 h1]

theorem decode111111_of_begins {i : Instr} (hop : fieldOp h1 = 0b111111#6) (h : i.Begins [h1, h2, h3, h4]) :
    decode111111 h1 h2 = .ok i := by
  cases i
  all_goals
    simp [Instr.wellFormed, encode, hop, fieldOp4_eq, extract_6_5 h1, extract_4_7_eq_iff h1, ofNat_eq_iff,
      -BitVec.reduceAppend] at h
  case ldHu16 =>
    simp [decode111111, bit16, h]
  case bcond17 cond disp =>
    have hdisp : disp.extractLsb' 15 1 ++ disp.extractLsb' 0 15 = disp := extract_append_extract ..
    simp [decode111111, bit16, Cond.toBits_eq_iff, h, hdisp]
  case mac | macu | cmov | cmovImm | adf | sbf =>
    simp [decode111111_eq_decodeExtended, decodeExtended, extract_5_6, Cond.toBits_eq_iff, requireBits, h]
  case binsHh | binsHl | binsLl =>
    obtain ⟨-, -, -, hsub, -⟩ := id h
    obtain ⟨hop2, -⟩ := (extract_4_7_eq_iff h2 _).1 hsub
    simp [decode111111_eq_decodeExtended, decodeExtended, extract_5_6, hop2, fieldBinsLsb_eq_iff, h]
  case mulImm | muluImm =>
    obtain ⟨-, -, hsub, -⟩ := id h
    obtain hop2 | hop2 := fieldOp_of_extract_6_5 hsub <;>
      simp [decode111111_eq_decodeExtended, decodeExtended, extract_5_6, hop2, fieldImm9_eq_iff, h]
  case satsub3 | satadd3 =>
    simp [fieldSub_eq_iff] at h
    simp [decode111111_eq_decodeExtended, decodeExtended, extract_5_6, h]
  case di | ei | pushsp | popsp | jarlReg | pref =>
    rw [decode111111_eq_decodeExtendedFixed (by simp only [h]; rfl)]
    simp [decodeExtendedFixed, decodeSystem, requireBits, h]
  case syscall vector8 =>
    have hvector : vector8.extractLsb' 5 3 ++ vector8.extractLsb' 0 5 = vector8 := extract_append_extract ..
    rw [decode111111_eq_decodeExtendedFixed (by simp only [h]; rfl)]
    simp [decodeExtendedFixed, decodeSystem, requireBits, h, hvector]
  case cll =>
    have hhigh : h1.extractLsb' 13 3 = 0b111#3 ∧ h1.extractLsb' 11 2 = 0b11#2 := by
      simpa [h] using fieldHigh_eq_iff_3_2 h1 (fieldHigh h1)
    rw [decode111111_eq_decodeExtendedFixed (by simp only [h]; rfl)]
    simp [decodeExtendedFixed, decodeSystem_of_111, eq_cll_iff, hop, hhigh, h]
  case cache cacheop reg1 =>
    obtain ⟨hcache, ⟨hthree, htwo, hreg1⟩, hfive, hsub⟩ := h
    have hcacheop : h1.extractLsb' 11 2 ++ fieldHigh h2 = cacheop := (append_eq_iff ..).2 ⟨htwo.symm, hfive.symm⟩
    have hcll : ¬ (h1 = 0xFFFF#16 ∧ fieldHigh h2 = 0b11110#5) := by
      rintro ⟨hfirst, hsecond⟩
      obtain ⟨-, hones, -, hlow⟩ := (eq_cll_iff h1).1 hfirst
      have hop : cacheop = 0b1111110#7 := by rw [← hcacheop, hones, hsecond]; rfl
      exact hcache.elim (· hop) (· (hreg1.symm.trans hlow))
    rw [decode111111_eq_decodeExtendedFixed (by rw [hsub]; rfl)]
    simp only [decodeExtendedFixed, hsub]
    rw [decodeSystem_of_111 hthree, if_neg hcll, hcacheop, hreg1]
  case rieImm =>
    have hsub : fieldSub h2 = 0 := by simp [fieldSub_eq_iff_6_5, h]
    rw [decode111111_eq_decodeExtendedFixed (by simp only [hsub]; rfl)]
    simp [decodeExtendedFixed, hsub, requireBits, h]
  all_goals
    rw [decode111111_eq_decodeExtendedFixed (by simp only [h]; rfl)]
    simp [decodeExtendedFixed, requireBits, h]

/-! ### All rows -/

/-- The decoder finds the instruction that its halfwords begin with. -/
theorem decodeHalfs_of_begins {i : Instr} (h : i.Begins [h1, h2, h3, h4]) : decodeHalfs h1 h2 h3 h4 = .ok i := by
  by_cases h11110 : h1.extractLsb' 6 5 = 0b11110#5
  · rw [← decode11110_of_begins h11110 h]
    obtain hop | hop := fieldOp_of_extract_6_5 h11110 <;> simp [decodeHalfs, fieldOp4_eq, decodeMajor, hop]
  by_cases hop : fieldOp h1 = 0b111111#6
  · rw [← decode111111_of_begins hop h]
    simp [decodeHalfs, fieldOp4_eq, decodeMajor, hop]
  have h60 : fieldOp h1 ≠ 0b111100#6 := fun h60 => h11110 (by rw [extract_6_5, h60]; rfl)
  have h61 : fieldOp h1 ≠ 0b111101#6 := fun h61 => h11110 (by rw [extract_6_5, h61]; rfl)
  cases i
  all_goals
    simp [Instr.wellFormed, encode, h11110, h60, h61, hop, extract_4_7_eq_iff h1, ofNat_eq_iff,
      -BitVec.reduceAppend] at h
  case sldB | sldH | sstB | sstH | sldW | sstW =>
    simp [decodeHalfs, h]
  case bcond9 cond disp =>
    have hdisp : disp.extractLsb' 3 5 ++ disp.extractLsb' 0 3 = disp := extract_append_extract ..
    simp [decodeHalfs, h, hdisp]
  case ldH16 | ldW16 | stH16 | stW16 | loop =>
    simp [decodeHalfs, fieldOp4_eq, decodeMajor, bit16, h]
  case jr32 | jarl32 | jmp32 =>
    simp [decodeHalfs, fieldOp4_eq, decodeMajor, bit16, requireBits, fieldDisp31_eq_iff, h]
  case movImm32 =>
    simp [decodeHalfs, fieldOp4_eq, decodeMajor, append_eq_iff h3 h2, h]
  case nop | synci | synce | syncm | syncp =>
    simp [decodeHalfs, fieldOp4_eq, decodeMajor, decodeNop, h]
  case divh2 | switch | rie =>
    simp [decodeHalfs, fieldOp4_eq, decodeMajor, decode000010, h]
  case fetrap =>
    simp [decodeHalfs, fieldOp4_eq, decodeMajor, decode000010, fieldHigh_eq_iff_1_4, h]
  case set1 | clr1 | not1 | tst1 =>
    simp [decodeHalfs, fieldOp4_eq, decodeMajor, decodeBit, h]
  case callt =>
    obtain ⟨-, hmajor, -⟩ := id h
    obtain hop | hop := fieldOp_of_extract_6_5 hmajor <;> simp [decodeHalfs, fieldOp4_eq, decodeMajor, hop, h]
  case dispose | disposeJmp =>
    have hmajor : h1.extractLsb' 6 5 = 0b11001#5 := by simp [h]
    obtain hop | hop := fieldOp_of_extract_6_5 hmajor <;>
      simp [decodeHalfs, fieldOp4_eq, decodeMajor, decodeMajor.decodeDispose, fieldList_eq_iff, hop, h]
  all_goals
    simp [decodeHalfs, fieldOp4_eq, decodeMajor, h]

end

end Sys2Proof
end

section
/-!
LEMMAS. The decoder looks at no halfword past the length that the first two give (spec/30_encoding.md R161). So it does
not matter what stands for the halfwords that an instruction does not have: 0 in the fetch, the bytes that follow in a
stream.
-/
namespace Sys2Proof

section
variable {h1 h2 h3 h4 k2 k3 k4 : Half}

/-! ### The long instructions of the major opcode 11110x -/

theorem extract_9_2 (h : Half) : h.extractLsb' 9 2 = (fieldOp h).extractLsb' 4 2 := by
  simp only [fieldOp, ← BitVec.toNat_inj, BitVec.extractLsb'_toNat, Nat.shiftRight_eq_div_pow]
  omega

theorem two_bits : ∀ x : BitVec 2, x = 0#2 ∨ x = 1#2 ∨ x = 2#2 ∨ x = 3#2 := by decide

theorem instrLength_of_11110 (hop : h1.extractLsb' 6 5 = 0b11110#5) (hhigh : fieldHigh h1 = 0#5)
    (hbit : bit16 h2 = true) :
    instrLength h1 h2 =
      if fieldLow h2 = 0b00001#5 then 4
      else if h2.extractLsb' 0 3 = 0b011#3 then
        if h2.extractLsb' 3 2 = 0b00#2 then 4 else if h2.extractLsb' 3 2 = 0b11#2 then 8 else 6
      else 6 := by
  have hlong : h1.extractLsb' 9 2 = 0b11#2 ∧ fieldOp h1 ≠ 0b110001#6 ∧ fieldOp h1 ≠ 0b110111#6 := by
    rw [extract_9_2]
    obtain hop | hop := fieldOp_of_extract_6_5 hop <;> simp [hop]
  simp only [instrLength, hlong, hop, hhigh, hbit]
  generalize h2.extractLsb' 3 2 = ff
  obtain rfl | rfl | rfl | rfl := two_bits ff <;> simp [hlong]

theorem decode11110_congr (hop : h1.extractLsb' 6 5 = 0b11110#5)
    (hh3 : 4 < instrLength h1 h2 → h3 = k3) (hh4 : 6 < instrLength h1 h2 → h4 = k4) :
    decode11110 h1 h2 h3 h4 = decode11110 h1 h2 k3 k4 := by
  by_cases hlong : fieldHigh h1 = 0#5 ∧ bit16 h2 = true
  case neg =>
    simp only [decode11110]
    split <;> simp_all
  obtain ⟨hhigh, hbit⟩ := hlong
  rw [instrLength_of_11110 hop hhigh hbit] at hh3 hh4
  simp only [decode11110, hhigh, hbit, if_true]
  by_cases hshort : fieldLow h2 = 0b00001#5
  · simp [decodeLong, hshort]
  by_cases hprepare : h2.extractLsb' 0 3 = 0b011#3
  · obtain hff | hff | hff | hff := two_bits (h2.extractLsb' 3 2) <;>
      simp_all [decodeLong, decodePrepare2]
  · have hh3 : h3 = k3 := by simpa [hshort, hprepare] using hh3
    simp [decodeLong, hshort, hprepare, hh3]

/-! ### All instructions -/

theorem decodeHalfs_congr_of_long (hh3 : 4 < instrLength h1 h2 → h3 = k3)
    (hh4 : 6 < instrLength h1 h2 → h4 = k4) :
    decodeHalfs h1 h2 h3 h4 = decodeHalfs h1 h2 k3 k4 := by
  simp only [decodeHalfs]
  split
  case h_7 =>
    simp only [decodeMajor]
    split
    case h_24 hop | h_26 hop | h_32 hop =>
      by_cases hhigh : fieldHigh h1 = 0#5
      · simp_all [instrLength, extract_9_2, extract_6_5]
      · simp [hhigh]
    case h_37 hop | h_38 hop => exact decode11110_congr (by rw [extract_6_5, hop]; rfl) hh3 hh4
    all_goals rfl
  all_goals rfl

theorem decodeHalfs_congr_of_short (hlength : instrLength h1 h2 = 2) :
    decodeHalfs h1 h2 h3 h4 = decodeHalfs h1 k2 k3 k4 := by
  obtain ⟨hshort, hjarl⟩ :
      h1.extractLsb' 9 2 ≠ 0b11#2 ∧ ¬ (fieldOp h1 = 0b010111#6 ∧ fieldHigh h1 = 0#5) := by
    refine ⟨fun h9 => ?_, fun ⟨hop, hhigh⟩ => ?_⟩
    · have hfour : 4 ≤ instrLength h1 h2 := by
        simp only [instrLength, h9, bne_self_eq_false, Bool.false_eq_true, if_false]
        repeat' split
        all_goals decide
      omega
    · simp [instrLength, extract_9_2, hop, hhigh] at hlength
  rw [extract_9_2] at hshort
  simp only [decodeHalfs]
  split
  case h_7 =>
    simp only [decodeMajor]
    split
    case h_24 hop => simp_all
    case h_25 hop | h_26 hop | h_27 hop | h_28 hop | h_29 hop | h_30 hop | h_31 hop | h_32 hop | h_33 hop | h_34 hop |
        h_35 hop | h_36 hop | h_37 hop | h_38 hop | h_39 hop | h_40 hop =>
      exact absurd (by rw [hop]; rfl) hshort
    all_goals rfl
  all_goals rfl

/-- What `decodeHalfs` answers depends only on the halfwords that the instruction has. -/
theorem decodeHalfs_congr (hh2 : 2 < instrLength h1 h2 → h2 = k2)
    (hh3 : 4 < instrLength h1 h2 → h3 = k3) (hh4 : 6 < instrLength h1 h2 → h4 = k4) :
    decodeHalfs h1 h2 h3 h4 = decodeHalfs h1 k2 k3 k4 := by
  obtain hshort | hlong := (Machine.instrLength_bounds h1 h2).1.eq_or_lt
  · exact decodeHalfs_congr_of_short hshort.symm
  · rw [← hh2 hlong]
    exact decodeHalfs_congr_of_long hh3 hh4

end

end Sys2Proof
end

section
/-!
SETTLES O1 and O2. The decoder of bytes: it decodes the first halfwords of the stream where the stream holds as many as
their length says, so `decode` and `encode` are inverse to each other (spec/30_encoding.md R160, R161, R180 to R186).
-/
namespace Sys2Proof

/-! ### Bytes and halfwords -/

theorem length_bytesOf (hs : List Half) : (bytesOf hs).length = 2 * hs.length := by
  induction hs with
  | nil => rfl
  | cons h hs ih => simp only [bytesOf, List.length_cons, ih]; omega

theorem length_halfsOf : ∀ bs : List Byte, (halfsOf bs).length = bs.length / 2
  | [] | [_] => by simp [halfsOf]
  | _ :: _ :: bs => by simp only [halfsOf, List.length_cons, length_halfsOf bs]; omega

theorem halfsOf_bytesOf_append (hs : List Half) (bs : List Byte) : halfsOf (bytesOf hs ++ bs) = hs ++ halfsOf bs := by
  induction hs with
  | nil => rfl
  | cons h hs ih =>
    have hh : h.extractLsb' 8 8 ++ h.extractLsb' 0 8 = h := extract_append_extract ..
    simp only [bytesOf, List.cons_append, halfsOf, ih, hh]

theorem bytesOf_take_halfsOf (k : Nat) (bs : List Byte) (hk : 2 * k ≤ bs.length) :
    bytesOf ((halfsOf bs).take k) = bs.take (2 * k) := by
  induction k generalizing bs with
  | zero => rfl
  | succ k ih =>
    match bs, hk with
    | b0 :: b1 :: bs, hk =>
      obtain ⟨hhigh, hlow⟩ := (append_eq_iff b1 b0 _).1 rfl
      simp only [halfsOf, List.take_succ_cons, bytesOf, Nat.mul_add, hhigh, hlow,
        ih bs (by simpa [Nat.mul_add] using hk)]

/-- The `k`-th halfword of a stream of bytes as `decode` reads it: of the first eight bytes, 0 past their end. -/
def streamHalf (bs : List Byte) (k : Nat) : Half := (halfsOf (bs.take 8)).getD k 0

/-- The four halfwords that `decode` decodes. -/
def streamHalfs (bs : List Byte) : List Half := [streamHalf bs 0, streamHalf bs 1, streamHalf bs 2, streamHalf bs 3]

theorem take_streamHalfs {k : Nat} {bs : List Byte} (hk : k ≤ 4) (hbs : 2 * k ≤ bs.length) :
    (streamHalfs bs).take k = (halfsOf (bs.take 8)).take k := by
  have hlen : k ≤ (halfsOf (bs.take 8)).length := by
    rw [length_halfsOf, List.length_take]
    omega
  refine List.ext_getElem? fun j => ?_
  by_cases hj : j < k
  · rw [List.getElem?_take_of_lt hj, List.getElem?_take_of_lt hj]
    have hindex : j = 0 ∨ j = 1 ∨ j = 2 ∨ j = 3 := by omega
    obtain rfl | rfl | rfl | rfl := hindex <;>
      simp [streamHalfs, streamHalf, List.getElem?_eq_getElem (hj.trans_le hlen)]
  · simp [hj]

/-- A stream begins with the bytes of some halfwords where it is long enough and its halfwords begin with them. -/
theorem bytesOf_prefix_iff {hs : List Half} {bs : List Byte} (hlen : hs.length ≤ 4) :
    bytesOf hs <+: bs ↔ 2 * hs.length ≤ bs.length ∧ hs <+: streamHalfs bs := by
  have htake (hbs : 2 * hs.length ≤ bs.length) :
      bytesOf ((streamHalfs bs).take hs.length) = bs.take (2 * hs.length) := by
    rw [take_streamHalfs hlen hbs, bytesOf_take_halfsOf, List.take_take]
    · congr 1; omega
    · rw [List.length_take]; omega
  constructor
  · rintro ⟨rest, rfl⟩
    have hbs : 2 * hs.length ≤ (bytesOf hs ++ rest).length := by
      rw [List.length_append, length_bytesOf]; omega
    refine ⟨hbs, ?_⟩
    rw [List.prefix_iff_eq_take]
    have h8 : (bytesOf hs ++ rest).take 8 = bytesOf hs ++ rest.take (8 - 2 * hs.length) := by
      rw [List.take_append, length_bytesOf, List.take_of_length_le (by rw [length_bytesOf]; omega)]
    rw [take_streamHalfs hlen hbs, h8, halfsOf_bytesOf_append, List.take_left']
    rfl
  · rintro ⟨hbs, hpre⟩
    rw [List.prefix_iff_eq_take, length_bytesOf, ← htake hbs, ← List.prefix_iff_eq_take.1 hpre]

/-! ### The length of an instruction in its encoding -/

section
open Laws.EncodeLength

/-- The family `EncodeLength`, for every constructor: the length rule reads the length of an instruction from its
encoding (R161). -/
theorem instrLength_encode (i : Instr) : Statement i := by
  cases i
  exacts [
    ldB16 _ _ _, ldB23 _ _ _, ldBu16 _ _ _, ldBu23 _ _ _, ldDw _ _ _, ldH16 _ _ _, ldH23 _ _ _, ldHu16 _ _ _,
    ldHu23 _ _ _, ldW16 _ _ _, ldW23 _ _ _, sldB _ _, sldBu _ _, sldH _ _, sldHu _ _, sldW _ _, stB16 _ _ _,
    stB23 _ _ _, stDw _ _ _, stH16 _ _ _, stH23 _ _ _, stW16 _ _ _, stW23 _ _ _, sstB _ _, sstH _ _, sstW _ _,
    mul _ _ _, mulImm _ _ _, mulh _ _, mulhImm _ _, mulhi _ _ _, mulu _ _ _, muluImm _ _ _, mac _ _ _ _,
    macu _ _ _ _, addReg _ _, addImm _ _, addi _ _ _, cmpReg _ _, cmpImm _ _, movReg _ _, movImm5 _ _,
    movImm32 _ _, movea _ _ _, movhi _ _ _, sub _ _, subr _ _, adf _ _ _ _, sbf _ _ _ _, satadd _ _,
    sataddImm _ _, satadd3 _ _ _, satsub _ _, satsub3 _ _ _, satsubi _ _ _, satsubr _ _, andReg _ _, andi _ _ _,
    notReg _ _, orReg _ _, ori _ _ _, tst _ _, xorReg _ _, xori _ _ _, binsHh _ _ _ _, binsHl _ _ _ _,
    binsLl _ _ _ _, bsh _ _, bsw _ _, cmov _ _ _ _, cmovImm _ _ _ _, hsh _ _, hsw _ _, rotlImm _ _ _,
    rotl _ _ _, sar _ _, sarImm _ _, sar3 _ _ _, sasf _ _, setf _ _, shl _ _, shlImm _ _, shl3 _ _ _, shr _ _,
    shrImm _ _, shr3 _ _ _, sxb _, sxh _, zxb _, zxh _, sch0l _ _, sch0r _ _, sch1l _ _, sch1r _ _, div _ _ _,
    divh2 _ _, divh3 _ _ _, divhu _ _ _, divu _ _ _, divq _ _ _, divqu _ _ _, bcond9 _ _, bcond17 _ _,
    jarl22 _ _, jarl32 _ _, jarlReg _ _, jmpReg _, jmp32 _ _, jr22 _, jr32 _, loop _ _, clr1 _ _ _, clr1Reg _ _,
    not1 _ _ _, not1Reg _ _, set1 _ _ _, set1Reg _ _, tst1 _ _ _, tst1Reg _ _, callt _, caxi _ _ _, cll, ctret,
    di, dispose _ _, disposeJmp _ _ _, ei, eiret, feret, fetrap _, halt, ldlW _ _, ldsr _ _ _, nop, popsp _ _,
    prepare _ _, prepareSp _ _, prepareImmLo _ _ _, prepareImmHi _ _ _, prepareImm32 _ _ _, pushsp _ _, rie,
    rieImm _ _, snooze, stcW _ _, stsr _ _ _, switch _, synce, synci, syncm, syncp, syscall _, trap _,
    cache _ _, pref _ _]

end

/-- An instruction has one to four halfwords (R160). -/
theorem encode_length {i : Instr} (hwf : i.wellFormed = true) : 1 ≤ (encode i).length ∧ (encode i).length ≤ 4 := by
  have hlength := instrLength_encode i hwf
  have hbounds := Machine.instrLength_bounds ((encode i).getD 0 0) ((encode i).getD 1 0)
  rw [hlength, Instr.length] at hbounds
  omega

/-- The length rule gives the length of the instruction that some halfwords begin with, also where the second of them is
not its own. -/
theorem Instr.Begins.instrLength_eq {i : Instr} {h1 h2 : Half} {hs : List Half} (h : i.Begins (h1 :: h2 :: hs)) :
    instrLength h1 h2 = 2 * (encode i).length := by
  obtain ⟨hwf, hpre⟩ := h
  have hlength : instrLength _ _ = 2 * _ := instrLength_encode i hwf
  obtain ⟨hmin, -⟩ := encode_length hwf
  generalize encode i = e at hpre hlength hmin
  match e, hpre with
  | [], _ => simp at hmin
  | [a], hpre =>
    obtain rfl : a = h1 := (List.cons_prefix_cons.1 hpre).1
    obtain htwo | hfour := Machine.instrLength_two_or_four_le a
    · exact htwo h2
    · exact absurd (hfour 0) (by rw [show instrLength a 0 = 2 from hlength]; decide)
  | a :: b :: e, hpre =>
    obtain ⟨hfirst, hrest⟩ := List.cons_prefix_cons.1 hpre
    rw [← hfirst, ← (List.cons_prefix_cons.1 hrest).1]
    exact hlength

/-! ### The decoder is the inverse of the encoder -/

theorem decodeHalfs_eq_ok_iff {h1 h2 h3 h4 : Half} {i : Instr} :
    decodeHalfs h1 h2 h3 h4 = .ok i ↔ i.Begins [h1, h2, h3, h4] :=
  ⟨reads_decodeHalfs i, decodeHalfs_of_begins⟩

/-- A stream that holds the instruction it begins with is decoded by its halfwords. -/
theorem decode_of_length {bs : List Byte} (hmin : 2 ≤ bs.length)
    (hlength : instrLength (streamHalf bs 0) (streamHalf bs 1) ≤ bs.length) :
    decode bs = (decodeHalfs (streamHalf bs 0) (streamHalf bs 1) (streamHalf bs 2) (streamHalf bs 3)).map
      fun i => (i, bs.drop (instrLength (streamHalf bs 0) (streamHalf bs 1))) := by
  simp only [streamHalf] at hlength ⊢
  simp only [decode, Bool.or_eq_true, decide_eq_true_eq]
  rw [if_neg (by omega)]
  split <;> simp only [Except.map, *]

/-- A stream that ends within its first instruction is not decoded. -/
theorem decode_of_not_length {bs : List Byte}
    (h : ¬ (2 ≤ bs.length ∧ instrLength (streamHalf bs 0) (streamHalf bs 1) ≤ bs.length)) :
    decode bs = .error .truncated := by
  refine if_pos ?_
  simpa only [streamHalf, Bool.or_eq_true, decide_eq_true_eq, not_and_or, Nat.not_le] using h

/-- The streams that decode to an instruction and a rest are those that its encoding and the rest make up. -/
theorem decode_eq_ok_iff {bs rest : List Byte} {i : Instr} :
    decode bs = .ok (i, rest) ↔ i.wellFormed = true ∧ bs = bytesOf (encode i) ++ rest := by
  constructor
  · intro h
    by_cases hlong : 2 ≤ bs.length ∧ instrLength (streamHalf bs 0) (streamHalf bs 1) ≤ bs.length
    case neg => simp [decode_of_not_length hlong] at h
    obtain ⟨hmin, hlength⟩ := hlong
    rw [decode_of_length hmin hlength] at h
    cases hread : decodeHalfs (streamHalf bs 0) (streamHalf bs 1) (streamHalf bs 2) (streamHalf bs 3) with
    | error e => simp [hread, Except.map] at h
    | ok j =>
      simp only [hread, Except.map, Except.ok.injEq, Prod.mk.injEq] at h
      obtain ⟨rfl, rfl⟩ := h
      have hbegins := decodeHalfs_eq_ok_iff.1 hread
      have hn := hbegins.instrLength_eq
      obtain ⟨hwf, hpre⟩ := hbegins
      obtain ⟨rest, rfl⟩ := (bytesOf_prefix_iff (encode_length hwf).2).2 ⟨hn ▸ hlength, hpre⟩
      rw [hn, ← length_bytesOf, List.drop_left]
      exact ⟨hwf, rfl⟩
  · rintro ⟨hwf, hbs⟩
    obtain ⟨hlength, hpre⟩ := (bytesOf_prefix_iff (encode_length hwf).2).1 ⟨rest, hbs.symm⟩
    have hbegins : i.Begins (streamHalfs bs) := ⟨hwf, hpre⟩
    have hn : instrLength (streamHalf bs 0) (streamHalf bs 1) = 2 * (encode i).length := hbegins.instrLength_eq
    have hmin := (encode_length hwf).1
    rw [decode_of_length (by omega) (by omega), decodeHalfs_eq_ok_iff.2 hbegins, hn, ← length_bytesOf, hbs,
      List.drop_left]
    rfl

/-- Settles O1, by `decode_eq_ok_iff`: halfwords that begin with an encoding are decoded to its instruction, row by
row. -/
theorem decodeOfEncode : Obligations.DecodeOfEncode := fun _ _ hwf => decode_eq_ok_iff.2 ⟨hwf, rfl⟩

/-- Settles O2, by `decode_eq_ok_iff`: what a row of the decoder answers is encoded by the fields that the row was read
from. -/
theorem encodeOfDecode : Obligations.EncodeOfDecode := fun _ _ _ h => decode_eq_ok_iff.1 h

end Sys2Proof
end

section
/-!
LEMMAS. The fetch and the decoder of bytes: where nothing stands against fetching the bytes at the program counter, the
fetch decodes what `decode` decodes (spec/30_encoding.md R160, R161, R186; spec/20_memory.md R121, R142).
-/
namespace Sys2Proof

/-- A halfword of a stream is two of its bytes, the first the lower (R160). -/
theorem getD_halfsOf {k : Nat} {bs : List Byte} (hk : 2 * k + 2 ≤ bs.length) :
    (halfsOf bs).getD k 0 = bs.getD (2 * k + 1) 0 ++ bs.getD (2 * k) 0 := by
  induction k generalizing bs with
  | zero =>
    match bs, hk with
    | b0 :: b1 :: bs, _ => rfl
  | succ k ih =>
    match bs, hk with
    | b0 :: b1 :: bs, hk => exact ih (by simpa [Nat.mul_add] using hk)

end Sys2Proof

namespace Sys2Proof.Machine

open Sys2Proof

/-! ### The bytes at the program counter -/

theorem State.length_codeBytes (s : State) (n : Nat) : (s.codeBytes n).length = n := by simp [State.codeBytes]

/-- The halfwords that `decode` reads of the bytes at the program counter are those in memory, as far as the bytes
reach. -/
theorem State.streamHalf_codeBytes (s : State) {k n : Nat} (hk : k < 4) (hn : 2 * k + 2 ≤ n) :
    streamHalf (s.codeBytes n) k = s.halfAt (s.pc + BitVec.ofNat 32 (2 * k)) := by
  have hlength : ((s.codeBytes n).take 8).length = min 8 n := by rw [List.length_take, s.length_codeBytes]
  have hbyte : ∀ j < 8, j < n → ((s.codeBytes n).take 8).getD j 0 = s.byteAt (s.pc + BitVec.ofNat 32 j) := by
    intro j hj8 hjn
    simp [State.codeBytes, List.getD_eq_getElem?_getD, hj8, hjn]
  rw [streamHalf, getD_halfsOf (by omega), hbyte _ (by omega) (by omega), hbyte _ (by omega) (by omega), State.halfAt,
    BitVec.ofNat_add, BitVec.add_assoc]
  rfl

/-- The length of the instruction at the program counter, as memory holds it (R161). -/
def State.instrLengthAt (s : State) : Nat := instrLength (s.halfAt s.pc) (s.halfAt (s.pc + 2))

/-- Bytes that are decoded hold the whole instruction at the program counter, and its length is read from them. -/
theorem State.instrLength_codeBytes {s : State} {n : Nat} (h : decode (s.codeBytes n) ≠ .error .truncated) :
    2 ≤ n ∧ s.instrLengthAt ≤ n ∧ instrLength (streamHalf (s.codeBytes n) 0) (streamHalf (s.codeBytes n) 1) =
      s.instrLengthAt := by
  obtain ⟨hmin, hlength⟩ := Decidable.by_contra (mt decode_of_not_length h)
  rw [s.length_codeBytes] at hmin hlength
  have h0 : streamHalf (s.codeBytes n) 0 = s.halfAt s.pc := by
    simpa using s.streamHalf_codeBytes (k := 0) (by omega) hmin
  rw [h0] at hlength ⊢
  suffices heq : instrLength (s.halfAt s.pc) (streamHalf (s.codeBytes n) 1) = s.instrLengthAt from
    ⟨hmin, heq ▸ hlength, heq⟩
  obtain htwo | hfour := instrLength_two_or_four_le (s.halfAt s.pc)
  · rw [State.instrLengthAt, htwo, htwo]
  · have hn := (hfour _).trans hlength
    rw [State.instrLengthAt, s.streamHalf_codeBytes (k := 1) (by omega) hn]
    rfl

/-! ### What the fetch decodes -/

/-- An instruction is whole halfwords (R160, R161). -/
theorem instrLength_mod_two (h1 h2 : Half) : instrLength h1 h2 % 2 = 0 := by
  rw [instrLength_eq, lenNat]
  repeat' split
  all_goals rfl

/-- A fetch that nothing stands against gives the halfwords of the instruction as they
stand, 0 for those it does not have, and changes nothing. -/
theorem State.fetchHalfs_of_fetchable {s : State} {n : Nat} (h : Fetchable s n) (hn : s.instrLengthAt ≤ n) :
    s.fetchHalfs = ⟨s.halfAt s.pc, if s.instrLengthAt = 2 then 0 else s.halfAt (s.pc + 2),
      if s.instrLengthAt ≤ 4 then 0 else s.halfAt (s.pc + 4),
      if s.instrLengthAt ≤ 6 then 0 else s.halfAt (s.pc + 6), s.instrLengthAt, s⟩ := by
  obtain ⟨-, -, hplain, hstale⟩ := h
  obtain ⟨hmin, hmax⟩ : 2 ≤ s.instrLengthAt ∧ s.instrLengthAt ≤ 8 := instrLength_bounds _ _
  have heven : s.instrLengthAt % 2 = 0 := instrLength_mod_two _ _
  have hfetch : ∀ k, k + 2 ≤ s.instrLengthAt →
      s.fetchHalf (s.pc + BitVec.ofNat 32 k) = (s.halfAt (s.pc + BitVec.ofNat 32 k), s) := fun k hk =>
    State.fetchHalf_of_plain (State.plainAll_of_le (hk.trans hn) hplain) fun e he => by have := hstale e he; bv_omega
  have h1 : s.fetchHalf s.pc = (s.halfAt s.pc, s) := by simpa using hfetch 0 hmin
  obtain htwo | hfour := instrLength_two_or_four_le (s.halfAt s.pc)
  · have hlength : s.instrLengthAt = 2 := htwo _
    simp [State.fetchHalfs, h1, htwo, hlength]
  · have hshort : ¬ instrLength (s.halfAt s.pc) 0 ≤ 2 := by have := hfour 0; omega
    have hlong : ¬ s.instrLengthAt = 2 := by have : 4 ≤ s.instrLengthAt := hfour _; omega
    have h2 : s.fetchHalf (s.pc + 2) = (s.halfAt (s.pc + 2), s) := hfetch 2 (hfour _)
    have hlength : instrLength (s.halfAt s.pc) (s.halfAt (s.pc + 2)) = s.instrLengthAt := rfl
    simp only [State.fetchHalfs, h1, if_neg hshort, h2, hlength, if_neg hlong]
    by_cases h4 : s.instrLengthAt ≤ 4
    · simp only [if_pos h4, if_pos (h4.trans (by decide : 4 ≤ 6))]
    · have hthird : s.fetchHalf (s.pc + 4) = (s.halfAt (s.pc + 4), s) := hfetch 4 (by omega)
      by_cases h6 : s.instrLengthAt ≤ 6
      · simp only [if_neg h4, hthird, if_pos h6]
      · have hfourth : s.fetchHalf (s.pc + 6) = (s.halfAt (s.pc + 6), s) := hfetch 6 (by omega)
        simp only [if_neg h4, hthird, if_neg h6, hfourth]

/-- A fetch that nothing stands against comes down to decoding. -/
theorem State.fetch_of_fetchable {s : State} {n : Nat} (h : Fetchable s n) (hn : s.instrLengthAt ≤ n) :
    s.fetch = decodeFetched s.fetchHalfs := by
  have hlength : s.fetchHalfs.length = s.instrLengthAt := by rw [State.fetchHalfs_of_fetchable h hn]
  obtain ⟨hallowed, herror, hplain, -⟩ := h
  have hplain : s.plainAll s.pc s.instrLengthAt = true := by
    simpa using State.plainAll_of_le (j := 0) (by omega) hplain
  simp [State.fetch, hlength, State.mpuAllowsAll_mono hn hallowed, State.deviceAny_of_plainAll hplain,
    State.fetchError_eq_none fun k hk => herror k (hk.trans_le hn)]

/-- The halfwords that a fetch gives, as `decodeHalfs` decodes them. -/
def FetchedHalfs.decoded (f : FetchedHalfs) : Except DecodeError Instr := decodeHalfs f.h1 f.h2 f.h3 f.h4

/-- Where the bytes at the program counter hold the instruction and may be fetched, the fetch decodes what `decode`
decodes. -/
theorem State.decode_codeBytes {s : State} {n : Nat} (h : Fetchable s n)
    (hdecode : decode (s.codeBytes n) ≠ .error .truncated) :
    decode (s.codeBytes n) = s.fetchHalfs.decoded.map fun i => (i, (s.codeBytes n).drop s.instrLengthAt) := by
  obtain ⟨hmin, hn, hlength⟩ := State.instrLength_codeBytes hdecode
  have hhalf {k : Nat} (hk : k < 4) (hkn : 2 * k + 2 ≤ n) := s.streamHalf_codeBytes hk hkn
  have heven : s.instrLengthAt % 2 = 0 := instrLength_mod_two _ _
  have h1 : streamHalf (s.codeBytes n) 0 = s.halfAt s.pc := by simpa using hhalf (k := 0) (by decide) hmin
  rw [decode_of_length (by rwa [s.length_codeBytes]) (by rwa [hlength, s.length_codeBytes]), hlength,
    FetchedHalfs.decoded, State.fetchHalfs_of_fetchable h hn, ← h1]
  dsimp only
  congr 1
  refine decodeHalfs_congr (fun hmore => ?_) (fun hmore => ?_) fun hmore => ?_ <;>
    (rw [hlength] at hmore; rw [if_neg (by omega)])
  · exact hhalf (k := 1) (by decide) (by omega)
  · exact hhalf (k := 2) (by decide) (by omega)
  · exact hhalf (k := 3) (by decide) (by omega)

/-- Bytes that may be fetched and that `decode` refuses: the fetch refuses them for the same reason. -/
theorem State.fetch_of_decode_error {s : State} {n : Nat} {e : DecodeError} (h : Fetchable s n)
    (hdecode : decode (s.codeBytes n) = .error e) (he : e ≠ .truncated) :
    s.fetch = decodeFetched s.fetchHalfs ∧ s.fetchHalfs.decoded = .error e := by
  have hheld : decode (s.codeBytes n) ≠ .error .truncated := by simpa [hdecode] using he
  refine ⟨State.fetch_of_fetchable h (State.instrLength_codeBytes hheld).2.1, ?_⟩
  rw [State.decode_codeBytes h hheld] at hdecode
  cases hd : s.fetchHalfs.decoded with
  | ok i => simp [hd, Except.map] at hdecode
  | error d => simpa [hd, Except.map] using hdecode

end Sys2Proof.Machine
end

section
/-!
SETTLES O34, O17 and O8. The condition codes; the operands and patterns that are refused by name; the exceptions of an
undefined pattern (spec/30_encoding.md R172, R178, R179, R185).
-/
namespace Sys2Proof.Machine

open Sys2Proof

/-! ### Condition codes (R172) -/

/-- Inverting bit 3 of a code inverts its condition, except in the pair T and SA. -/
theorem Psw.holds_ofBits_xor (p : Psw) (b : BitVec 4) (ht : b ≠ 0b0101) (hsa : b ≠ 0b1101) :
    p.holds (Cond.ofBits (b ^^^ 0b1000)) = !p.holds (Cond.ofBits b) := by
  obtain ⟨cond, rfl⟩ : ∃ cond : Cond, b = cond.toBits := ⟨_, (Cond.toBits_ofBits b).symm⟩
  cases cond with
  | t => exact absurd rfl ht
  | sa => exact absurd rfl hsa
  | v | c | z | nh | s | lt | le => rfl
  | nv | nc | nz | h | ns | ge | gt => exact (Bool.not_not _).symm

/-- Settles O34: each row is the value of `Psw.holds` at its condition. -/
theorem conditionTable : Obligations.ConditionTable := by
  intro p
  refine ⟨?_, ?_, ?_, ?_, ?_, ?_, ?_, ?_, ?_, ?_, ?_, ?_, ?_, ?_, ?_, ?_, Psw.holds_ofBits_xor p⟩ <;>
    simp [Cond.ofBits, Psw.holds]

/-! ### Prohibited operands (R178) -/

/-- The name under which a prohibited pattern is refused. -/
def refusalOf : DecodeError → Option Refusal
  | .prohibitedBranchAlways17 => some .prohibitedBranchAlways17
  | .prohibitedLoopR0 => some .prohibitedLoopR0
  | .prohibitedDivhR0 => some .prohibitedDivhR0
  | .prohibitedJarlR0 => some .prohibitedJarlR0
  | .undefined | .truncated => none

/-- What the fetch answers for a prohibited pattern. -/
theorem decodeFetched_of_refusalOf {f : FetchedHalfs} {e : DecodeError} {r : Refusal} (h : f.decoded = .error e)
    (hr : refusalOf e = some r) : decodeFetched f = .refused r := by
  rw [FetchedHalfs.decoded] at h
  rw [decodeFetched, h]
  cases e <;> cases hr <;> rfl

/-- A prohibited pattern that may be fetched is refused by its name. -/
theorem step_of_refusalOf {s : State} {n : Nat} {e : DecodeError} {r : Refusal} (hs : RunsNext s)
    (hf : Fetchable s n) (hdecode : decode (s.codeBytes n) = .error e) (hr : refusalOf e = some r) :
    step s = .refused r := by
  have he : e ≠ .truncated := by
    rintro rfl
    cases hr
  obtain ⟨hfetch, hdecoded⟩ := State.fetch_of_decode_error hf hdecode he
  rw [step_of_runsNext hs, runInstruction, hfetch, decodeFetched_of_refusalOf hdecoded hr]

/-- LDSR in supervisor mode to a number that R35 prohibits. -/
theorem execLdsr_of_writeProhibited {s : State} {regID selID : BitVec 5} (hum : s.psw.um = false)
    (hp : writeProhibited regID selID = true) (reg2 : Reg) :
    execLdsr reg2 regID selID s = .refused .prohibitedSystemRegister := by
  simp [execLdsr, hum, hp]

/-- Settles O17: the odd pairs and the seven numbers by the first checks of their meanings, the four patterns by the
fetch. -/
theorem prohibitedOperandsRefused : Obligations.ProhibitedOperandsRefused :=
  ⟨fun _ _ _ _ hodd => ⟨if_pos hodd, if_pos hodd⟩,
    fun _ reg2 hum _ hn => execLdsr_of_writeProhibited hum (List.contains_iff_mem.2 hn) reg2,
    fun _ _ hs hf => ⟨(step_of_refusalOf hs hf · rfl), (step_of_refusalOf hs hf · rfl),
      (step_of_refusalOf hs hf · rfl), (step_of_refusalOf hs hf · rfl)⟩⟩

/-! ### Undefined patterns (R179, R185) -/

/-- The pattern of a coprocessor fits the first two halfwords (R185). -/
def CoproFits (p : CoproPattern) (h1 h2 : Half) : Prop := (h2 ++ h1 : Word) &&& p.mask = p.value &&& p.mask

theorem coproOf_cons_of_fits {p : CoproPattern} {h1 h2 : Half} (h : CoproFits p h1 h2) (ps : List CoproPattern) :
    coproOf (p :: ps) h1 h2 = some p.cu :=
  if_pos (beq_iff_eq.2 h)

theorem coproOf_cons_of_not_fits {p : CoproPattern} {h1 h2 : Half} (h : ¬ CoproFits p h1 h2) (ps : List CoproPattern) :
    coproOf (p :: ps) h1 h2 = coproOf ps h1 h2 :=
  if_neg (mt beq_iff_eq.1 h)

/-- Patterns that do not fit are passed over. -/
theorem coproOf_append_of_not_fits {ps : List CoproPattern} {h1 h2 : Half} (h : ∀ p ∈ ps, ¬ CoproFits p h1 h2)
    (qs : List CoproPattern) : coproOf (ps ++ qs) h1 h2 = coproOf qs h1 h2 := by
  induction ps with
  | nil => rfl
  | cons p ps ih =>
    rw [List.cons_append, coproOf_cons_of_not_fits (h p List.mem_cons_self),
      ih fun q hq => h q (List.mem_cons_of_mem p hq)]

/-- The step at an undefined pattern that may be fetched raises what its first two halfwords are given to. -/
theorem step_of_undefined {s : State} {n : Nat} (hs : RunsNext s) (hf : Fetchable s n)
    (hdecode : decode (s.codeBytes n) = .error .undefined) :
    step s = .next (s.raiseUndefined (s.halfAt s.pc) (if s.instrLengthAt = 2 then 0 else s.halfAt (s.pc + 2))) := by
  obtain ⟨hfetch, hdecoded⟩ := State.fetch_of_decode_error hf hdecode nofun
  have hfetched := State.fetchHalfs_of_fetchable hf (State.instrLength_codeBytes (by simp [hdecode])).2.1
  rw [FetchedHalfs.decoded] at hdecoded
  rw [step_of_runsNext hs, runInstruction, hfetch, decodeFetched, hdecoded, hfetched]

/-- Settles O8: the list of the product's patterns is searched up to the first that fits. -/
theorem undefinedPatternRaisesReserved : Obligations.UndefinedPatternRaisesReserved := by
  intro s n hs hf hdecode h1 h2 fits
  have hstep : step s = .next (s.raiseUndefined h1 h2) := step_of_undefined hs hf hdecode
  refine ⟨fun hnone => ?_, fun ps p qs hcopro hbefore hfits => ?_⟩
  · have hrie : coproOf s.product.copro h1 h2 = none := by
      rw [← List.append_nil s.product.copro, coproOf_append_of_not_fits hnone, coproOf]
    rw [State.raiseUndefined, hrie] at hstep
    exact ⟨_, hstep, s.raise_acknowledged (x := .rie) s.sys s.freeCtr rfl rfl rfl rfl, rfl⟩
  · have hucpop : coproOf s.product.copro h1 h2 = some p.cu := by
      rw [hcopro, coproOf_append_of_not_fits hbefore, coproOf_cons_of_fits hfits]
    rw [State.raiseUndefined, hucpop] at hstep
    exact ⟨_, hstep, s.raise_acknowledged (x := .ucpop p.cu) s.sys s.freeCtr rfl rfl rfl rfl, rfl⟩

end Sys2Proof.Machine
end

section
/-!
SETTLES O15, O16 and O3. A load or store whose bytes may be accessed completes, and what it leaves unchanged
(spec/40_load_store.md R200 to R218; spec/47_special.md R381, R392); and the example words that the spec prints.
-/
namespace Sys2Proof.Machine

open Sys2Proof

/-! ### What storing bytes and writing a pair of registers leave -/

@[simp] theorem State.writeLE_pc (s : State) (a : Word) (v : Dword) (n : Nat) : (s.writeLE a v n).pc = s.pc := by
  rw [State.writeLE_frame]

@[simp] theorem State.writeLE_psw (s : State) (a : Word) (v : Dword) (n : Nat) : (s.writeLE a v n).psw = s.psw := by
  rw [State.writeLE_frame]

@[simp] theorem State.writeLE_reg (s : State) (a : Word) (v : Dword) (n : Nat) (r : Reg) :
    (s.writeLE a v n).reg r = s.reg r :=
  State.reg_congr (by rw [State.writeLE_frame]) r

theorem State.writeLE_sameControl (s : State) (a : Word) (v : Dword) (n : Nat) : SameControl s (s.writeLE a v n) := by
  rw [State.writeLE_frame]
  exact ⟨rfl, rfl, rfl, rfl, rfl, rfl⟩

/-- Of two writes the second wins. -/
theorem State.setReg_setReg_regsAre (s : State) (d e : Reg) (v w : Word) :
    RegsAre s ((s.setReg d v).setReg e w) d v e w := by
  intro r
  rw [State.reg_setReg, State.reg_setReg]
  by_cases hr : r = 0
  · simp only [hr, ne_eq, not_true, and_false, if_false, if_true, State.reg_zero]
  · simp only [hr, ne_eq, not_false_eq_true, and_true, if_false]

/-! ### Loads -/

section

variable {s : State} {i : Instr} {tag : AccessTag} {a : Word} {n len : Nat}

/-- The loads of one register (R201 to R211, R381). -/
theorem computes_of_loadReg {ext : Dword → Word} {d : Reg} {v : Word} (hexec : exec i s = s.loadReg tag a n ext d len)
    (hvalue : ext (s.readLE a n) = v) (h : CanRead s s.psw.um a n) : Computes i s len d v s.psw := by
  subst hvalue
  rw [State.loadReg, State.memRead_of_canRead h] at hexec
  refine ⟨_, hexec, ?pc, ?control, fun r => ?reg, ?psw, fun b => ?mem⟩
  case control => simp [SameControl]
  case reg => simp [State.reg_setReg]
  case pc | psw | mem => simp

/-- The load of a pair of registers, as LD.DW makes it (R203). -/
theorem completes_of_loadPair {d e : Reg}
    (hexec : exec i s =
      (s.memRead tag s.psw.um a 8).andThen fun v s => ((s.setReg d v.low).setReg e v.high).done len)
    (h : CanRead s s.psw.um a 8) :
    Completes i s len fun t =>
      RegsAre s t d (s.wordAt a) e (s.wordAt (a + 4)) ∧ t.psw = s.psw ∧ SameMemory s t := by
  rw [State.memRead_of_canRead h] at hexec
  rw [← low_readLE s a 8 (by decide), ← high_readLE]
  refine ⟨_, hexec, ?pc, ?control, ?regs, ?psw, fun b => ?mem⟩
  case control => simp [SameControl]
  case regs => exact (s.markLoaded a 8).setReg_setReg_regsAre d e _ _
  case pc | psw | mem => simp

/-! ### Stores -/

/-- A store of the low bytes of any value (R212 to R218, R392). -/
theorem stores_of_memWrite {v : Dword} (hn : n ≤ 2 ^ 32)
    (hexec : exec i s = (s.memWrite tag a n v).andThen fun _ s => s.done len) (h : CanWrite s a n) :
    Stores i s len a v n := by
  rw [State.memWrite_of_canWrite h] at hexec
  refine ⟨_, hexec, ?pc, s.writeLE_sameControl a v n, fun r => ?reg, ?psw, fun k hk => ?stored, fun b hb => ?others⟩
  case stored => exact s.byteAt_writeLE_of_lt a v n hn k hk
  case others => exact s.byteAt_writeLE_of_le a v n hn b hb
  case pc | reg | psw => simp

end

/-! ### The instructions -/

/-- Settles O15: by the extension of the value read, and LD.DW by its pair. -/
theorem loadsComplete : Obligations.LoadsComplete := by
  intro s i x hx h
  cases i with
  | ldB16 | ldB23 | sldB =>
    obtain rfl := Option.some.inj hx
    exact computes_of_loadReg rfl (signByte_readLE ..) h
  | ldBu16 | ldBu23 | sldBu =>
    obtain rfl := Option.some.inj hx
    exact computes_of_loadReg rfl (zeroByte_readLE ..) h
  | ldH16 | ldH23 | sldH =>
    obtain rfl := Option.some.inj hx
    exact computes_of_loadReg rfl (signHalf_readLE ..) h
  | ldHu16 | ldHu23 | sldHu =>
    obtain rfl := Option.some.inj hx
    exact computes_of_loadReg rfl (zeroHalf_readLE ..) h
  | ldW16 | ldW23 | sldW | ldlW =>
    obtain rfl := Option.some.inj hx
    exact computes_of_loadReg rfl (low_readLE _ _ 4 (Nat.le_refl 4)) h
  | ldDw d reg1 reg3 =>
    obtain ⟨heven, hx⟩ := Option.ite_none_left_eq_some.1 hx
    obtain rfl := Option.some.inj hx
    exact completes_of_loadPair (if_neg heven) h
  | _ => trivial

/-- Settles O16: every store writes the low bytes of one value, ST.DW those of its pair. -/
theorem storesComplete : Obligations.StoresComplete := by
  intro s i x hx h
  cases i with
  | stB16 | stB23 | sstB | stH16 | stH23 | sstH | stW16 | stW23 | sstW | stcW =>
    obtain rfl := Option.some.inj hx
    exact stores_of_memWrite (by decide) rfl h
  | stDw d reg1 reg3 =>
    obtain ⟨heven, hx⟩ := Option.ite_none_left_eq_some.1 hx
    obtain rfl := Option.some.inj hx
    exact stores_of_memWrite (by decide) (if_neg heven) h
  | _ => trivial

/-- Settles O3: each instruction is well formed, and its encoding is the words that the spec prints. -/
theorem decodesSpecWords : Obligations.DecodesSpecWords := by
  refine ⟨?_, ?_, ?_, ?_, ?_, ?_, ?_, ?_, ?_⟩ <;> exact decode_eq_ok_iff.2 ⟨rfl, rfl⟩

end Sys2Proof.Machine
end

section
/-!
SETTLES O24 to O29. The arithmetic instructions: each completes with the exact result of its rule in its destination and
the flags of its rule (spec/41_arithmetic.md R240 to R258).
-/
namespace Sys2Proof.Machine

open Sys2Proof

/-! ### Completing with registers and the status word written -/

section

variable {s u : State} {i : Instr} {len : Nat} {P : State → Prop}

/-- An instruction that ends by going on completes, where its writes leave the PC and the control state. -/
theorem completes_of_done (hexec : exec i s = u.done len) (hpc : u.pc = s.pc) (hcontrol : SameControl s u)
    (hP : P (u.advance len)) : Completes i s len P :=
  ⟨u.advance len, hexec, by rw [State.advance_pc, hpc], hcontrol, hP⟩

theorem State.setReg_sameControl (s : State) (d : Reg) (v : Word) : SameControl s (s.setReg d v) := by
  simp [SameControl]

/-- One register and the status word written. -/
theorem computes_of_setReg_psw {d : Reg} {v : Word} {p : Psw}
    (hexec : exec i s = State.done { s.setReg d v with psw := p } len) : Computes i s len d v p :=
  completes_of_done hexec (s.setReg_pc d v) (s.setReg_sameControl d v)
    ⟨s.reg_setReg d v, rfl, s.setReg_byteAt d v⟩

/-- One register written (R242: the flags keep their values). -/
theorem computes_of_setReg {d : Reg} {v : Word} (hexec : exec i s = (s.setReg d v).done len) :
    Computes i s len d v s.psw :=
  computes_of_setReg_psw (by rw [hexec, ← s.setReg_psw d v])

/-- The status word written. -/
theorem setsFlags_of_psw {p : Psw} (hexec : exec i s = State.done { s with psw := p } len) : SetsFlags i s len p :=
  completes_of_done hexec rfl ⟨rfl, rfl, rfl, rfl, rfl, rfl⟩ ⟨fun _ => rfl, rfl, fun _ => rfl⟩

/-- The two halves of a double-word written, the high word last (R251, R255). -/
theorem completes_of_setProduct {d e : Reg} {p : Dword} (hexec : exec i s = (s.setProduct d e p).done len) :
    Completes i s len fun t =>
      RegsAre s t d (p.extractLsb' 0 32) e (p.extractLsb' 32 32) ∧ t.psw = s.psw ∧ SameMemory s t := by
  refine completes_of_done hexec ?pc ?control ⟨s.setReg_setReg_regsAre d e _ _, ?psw, fun b => ?mem⟩
  case control => simp [SameControl, State.setProduct]
  case pc | psw | mem => simp [State.setProduct]

end

/-! ### Immediates and halfwords -/

theorem signedProduct_signExtend {n : Nat} (a : Word) (imm : BitVec n) (h : n ≤ 32) :
    signedProduct a (imm.signExtend 32) = BitVec.ofInt 64 (a.toInt * imm.toInt) := by
  rw [signedProduct, BitVec.toInt_signExtend_of_le h]

theorem unsignedProduct_setWidth {n : Nat} (a : Word) (imm : BitVec n) (h : n ≤ 32) :
    unsignedProduct a (imm.setWidth 32) = BitVec.ofNat 64 (a.toNat * imm.toNat) := by
  rw [unsignedProduct, BitVec.toNat_setWidth_of_le h]

/-- The lower halfword of a word is its truncation. -/
theorem lowHalf_eq_setWidth (a : Word) : a.extractLsb' 0 16 = a.setWidth 16 :=
  (BitVec.setWidth_eq_extractLsb' (by decide)).symm

/-- An immediate in the upper halfword is its value times 2^16 (R248). -/
theorem half_append_zero_eq_mul (imm : Half) : (imm ++ 0#16 : Word) = imm.setWidth 32 * 0x10000 := by
  have happend : (imm ++ 0#16 : Word).toNat = imm.toNat <<< 16 ||| 0 := BitVec.toNat_append imm 0#16
  apply BitVec.eq_of_toNat_eq
  rw [happend, Nat.or_zero, Nat.shiftLeft_eq, BitVec.toNat_mul, BitVec.toNat_setWidth_of_le (by decide)]
  exact (Nat.mod_eq_of_lt (Nat.mul_lt_mul_of_pos_right imm.isLt (by decide))).symm

/-! ### `add32` and `sub32` (R240, R241) -/

theorem add32_res (a b : Word) (c : Bool) : (add32 a b c).res = a + b + BitVec.ofNat 32 c.toNat := by
  simp [add32, BitVec.ofNat_add]

theorem sub32_res (a b : Word) (c : Bool) : (sub32 a b c).res = a - b - BitVec.ofNat 32 c.toNat := by
  simp [sub32, Int.sub_eq_add_neg, BitVec.ofInt_add, BitVec.ofInt_neg, BitVec.sub_eq_add_neg]

theorem overflows_eq (t : Int) : overflows t = decide (t < -2 ^ 31 ∨ 2 ^ 31 - 1 < t) :=
  (Bool.decide_or ..).symm

/-- The borrow of the exact unsigned difference. -/
theorem sub32_cy (a b : Word) (c : Bool) : (sub32 a b c).cy = decide (a.toNat < b.toNat + c.toNat) := by
  simp only [sub32, decide_eq_decide]
  omega

theorem State.setArithFlags_add32 (s : State) (a b : Word) (c : Bool) :
    s.setArithFlags (add32 a b c) = { s with psw := addFlags s.psw a b c } := by
  rw [State.setArithFlags, add32_res, addFlags, ← overflows_eq]
  rfl

theorem State.setArithFlags_sub32 (s : State) (a b : Word) (c : Bool) :
    s.setArithFlags (sub32 a b c) = { s with psw := subFlags s.psw a b c } := by
  rw [State.setArithFlags, sub32_res, sub32_cy, subFlags, ← overflows_eq]
  rfl

section

variable {s : State} {i : Instr} {len : Nat} {a b : Word} {c : Bool}

theorem computes_of_add32 {d : Reg} (hexec : exec i s = (s.setArith d (add32 a b c)).done len) :
    Computes i s len d (a + b + BitVec.ofNat 32 c.toNat) (addFlags s.psw a b c) :=
  computes_of_setReg_psw (by rw [hexec, State.setArith, State.setArithFlags_add32, add32_res, State.setReg_psw])

theorem computes_of_sub32 {d : Reg} (hexec : exec i s = (s.setArith d (sub32 a b c)).done len) :
    Computes i s len d (a - b - BitVec.ofNat 32 c.toNat) (subFlags s.psw a b c) :=
  computes_of_setReg_psw (by rw [hexec, State.setArith, State.setArithFlags_sub32, sub32_res, State.setReg_psw])

theorem setsFlags_of_sub32 (hexec : exec i s = (s.setArithFlags (sub32 a b c)).done len) :
    SetsFlags i s len (subFlags s.psw a b c) :=
  setsFlags_of_psw (by rw [hexec, State.setArithFlags_sub32])

end

/-! ### The instructions -/

/-- Settles O29: each writes one register; MOVHI's immediate as a multiple of 2^16. -/
theorem movesComplete : Obligations.MovesComplete := by
  intro s reg1 reg2 imm5 imm16 imm32
  refine ⟨computes_of_setReg rfl, computes_of_setReg rfl, computes_of_setReg rfl, computes_of_setReg rfl, ?movhi⟩
  rw [← half_append_zero_eq_mul]
  exact computes_of_setReg rfl

/-- Settles O24: the immediate forms multiply by the value of the immediate, which its extension keeps. -/
theorem multiplyComplete : Obligations.MultiplyComplete := by
  intro s reg1 reg2 reg3 imm9
  refine ⟨completes_of_setProduct rfl, ?mulImm, completes_of_setProduct rfl, ?muluImm⟩
  case mulImm =>
    rw [← signedProduct_signExtend _ _ (by decide)]
    exact completes_of_setProduct rfl
  case muluImm =>
    rw [← unsignedProduct_setWidth _ _ (by decide)]
    exact completes_of_setProduct rfl

/-- Settles O25: only the lower halfwords are read, and an immediate keeps its value. -/
theorem halfwordMultiplyComplete : Obligations.HalfwordMultiplyComplete := by
  intro s reg1 reg2 imm5 imm16
  simp only [lowHalf_eq_setWidth]
  refine ⟨computes_of_setReg rfl, ?mulhImm, computes_of_setReg rfl⟩
  rw [← BitVec.toInt_signExtend_of_le (x := imm5) (v := 16) (by decide)]
  exact computes_of_setReg rfl

/-- Settles O26: writing a pair is writing a product to its even and its odd register. -/
theorem multiplyAccumulateComplete : Obligations.MultiplyAccumulateComplete :=
  fun _ _ _ _ _ => ⟨completes_of_setProduct rfl, completes_of_setProduct rfl⟩

/-- Settles O27: each adds with `add32`. -/
theorem additionsComplete : Obligations.AdditionsComplete :=
  fun _ _ _ _ _ _ _ =>
    ⟨computes_of_add32 rfl, computes_of_add32 rfl, computes_of_add32 rfl, computes_of_add32 rfl⟩

/-- Settles O28: each subtracts with `sub32`. -/
theorem subtractionsComplete : Obligations.SubtractionsComplete :=
  fun _ _ _ _ _ _ =>
    ⟨computes_of_sub32 rfl, computes_of_sub32 rfl, computes_of_sub32 rfl, setsFlags_of_sub32 rfl,
      setsFlags_of_sub32 rfl⟩

end Sys2Proof.Machine
end

section
/-!
SETTLES O30 and O31. The saturated and the logical instructions: each completes with the clamped exact result, or the
bitwise result, in its destination and the flags of its rule (spec/42_saturated_logical.md R280 to R293).
-/
namespace Sys2Proof.Machine

open Sys2Proof

/-! ### Saturation (R280) -/

/-- The clamp of an exact result goes by the side on which 32 bits cannot hold it. -/
theorem clampWord_eq (t : Int) :
    clampWord t =
      if overflows t then (if 2 ^ 31 - 1 < t then 0x7FFFFFFF else 0x80000000) else BitVec.ofInt 32 t := by
  simp only [overflows_eq, decide_eq_true_eq, clampWord]
  by_cases habove : 2 ^ 31 - 1 < t
  · have hclamp : max (-2 ^ 31) (min (2 ^ 31 - 1) t) = 2 ^ 31 - 1 := by omega
    rw [hclamp, if_pos (.inr habove), if_pos habove]
    rfl
  · by_cases hbelow : t < -2 ^ 31
    · have hclamp : max (-2 ^ 31) (min (2 ^ 31 - 1) t) = -2 ^ 31 := by omega
      rw [hclamp, if_pos (.inl hbelow), if_neg habove]
      rfl
    · have hclamp : max (-2 ^ 31) (min (2 ^ 31 - 1) t) = t := by omega
      rw [hclamp, if_neg (not_or.2 ⟨hbelow, habove⟩)]

section

variable {s : State} {i : Instr} {len : Nat} {d : Reg} {x : Arith} {a b : Word}

/-- Where the fields of an operation are those of its exact result, saturation is the clamp. -/
theorem Arith.saturated_eq_clampWord (hres : x.res = BitVec.ofInt 32 x.exact) (hov : x.ov = overflows x.exact) :
    x.saturated = clampWord x.exact := by
  rw [Arith.saturated, clampWord_eq, hres, hov]

theorem State.setSatFlags_eq (s : State) (hres : x.res = BitVec.ofInt 32 x.exact) (hov : x.ov = overflows x.exact) :
    s.setSatFlags x = { s with psw := satFlags s.psw x.exact x.cy } := by
  rw [State.setSatFlags, Arith.saturated_eq_clampWord hres hov, hov, overflows_eq]
  rfl

theorem computes_of_setSaturated (hexec : exec i s = (s.setSaturated d x).done len)
    (hres : x.res = BitVec.ofInt 32 x.exact) (hov : x.ov = overflows x.exact) :
    Computes i s len d (clampWord x.exact) (satFlags s.psw x.exact x.cy) :=
  computes_of_setReg_psw (by
    rw [hexec, State.setSaturated, State.setSatFlags_eq _ hres hov, Arith.saturated_eq_clampWord hres hov,
      State.setReg_psw])

/-- Without a carry in, the exact sum of `add32` is that of the two words. -/
theorem add32_false_exact (a b : Word) : (add32 a b false).exact = a.toInt + b.toInt := Int.add_zero _

/-- Without a borrow in, the exact difference of `sub32` is that of the two words. -/
theorem sub32_false_exact (a b : Word) : (sub32 a b false).exact = a.toInt - b.toInt := Int.sub_zero _

theorem add32_false_res (a b : Word) : (add32 a b false).res = BitVec.ofInt 32 (add32 a b false).exact := by
  rw [add32_res, add32_false_exact, BitVec.ofInt_add, BitVec.ofInt_toInt, BitVec.ofInt_toInt]
  exact BitVec.add_zero _

theorem sub32_false_res (a b : Word) : (sub32 a b false).res = BitVec.ofInt 32 (sub32 a b false).exact := by
  rw [sub32_res, sub32_false_exact, Int.sub_eq_add_neg, BitVec.ofInt_add, BitVec.ofInt_neg, BitVec.ofInt_toInt,
    BitVec.ofInt_toInt, ← BitVec.sub_eq_add_neg]
  exact BitVec.sub_zero _

/-- The saturated additions (R281). -/
theorem computes_of_saturatedAdd (hexec : exec i s = (s.setSaturated d (add32 a b false)).done len) :
    Computes i s len d (clampWord (a.toInt + b.toInt))
      (satFlags s.psw (a.toInt + b.toInt) (decide (2 ^ 32 ≤ a.toNat + b.toNat))) := by
  rw [← add32_false_exact]
  exact computes_of_setSaturated hexec (add32_false_res a b) rfl

/-- The saturated subtractions (R282 to R284). -/
theorem computes_of_saturatedSub (hexec : exec i s = (s.setSaturated d (sub32 a b false)).done len) :
    Computes i s len d (clampWord (a.toInt - b.toInt))
      (satFlags s.psw (a.toInt - b.toInt) (decide (a.toNat < b.toNat))) := by
  have hcy : (sub32 a b false).cy = decide (a.toNat < b.toNat) := sub32_cy a b false
  rw [← sub32_false_exact, ← hcy]
  exact computes_of_setSaturated hexec (sub32_false_res a b) rfl

/-! ### Logical results (R285) -/

theorem State.setLogicFlags_eq (s : State) (v : Word) :
    s.setLogicFlags v = { s with psw := logicFlags s.psw v } := rfl

theorem computes_of_setLogic {v : Word} (hexec : exec i s = (s.setLogic d v).done len) :
    Computes i s len d v (logicFlags s.psw v) :=
  computes_of_setReg_psw (by rw [hexec, State.setLogic, State.setLogicFlags_eq, State.setReg_psw])

theorem setsFlags_of_setLogicFlags {v : Word} (hexec : exec i s = (s.setLogicFlags v).done len) :
    SetsFlags i s len (logicFlags s.psw v) :=
  setsFlags_of_psw (by rw [hexec, State.setLogicFlags_eq])

end

/-! ### The instructions -/

/-- Settles O30: each saturates the sum or the difference of two words. -/
theorem saturatedComplete : Obligations.SaturatedComplete :=
  fun _ _ _ _ _ _ =>
    ⟨computes_of_saturatedAdd rfl, computes_of_saturatedAdd rfl, computes_of_saturatedAdd rfl,
      computes_of_saturatedSub rfl, computes_of_saturatedSub rfl, computes_of_saturatedSub rfl,
      computes_of_saturatedSub rfl⟩

/-- Settles O31: each writes one bitwise result, TST its flags alone. -/
theorem logicalComplete : Obligations.LogicalComplete :=
  fun _ _ _ _ =>
    ⟨computes_of_setLogic rfl, computes_of_setLogic rfl, computes_of_setLogic rfl, computes_of_setLogic rfl,
      computes_of_setLogic rfl, computes_of_setLogic rfl, computes_of_setLogic rfl, setsFlags_of_setLogicFlags rfl⟩

end Sys2Proof.Machine
end

section
/-!
SETTLES O32, O33, O35, O36, O37 and O38. The data manipulation and bit search instructions: each completes with the word
and the flags of its rule (spec/43_data_manipulation.md R300 to R320).
-/
namespace Sys2Proof.Machine

open Sys2Proof

/-- One register and the four flags written. -/
theorem computes_of_setReg_setFlags {s : State} {i : Instr} {len : Nat} {d : Reg} {v : Word} {cy ov sg z : Bool}
    (hexec : exec i s = ((s.setReg d v).setFlags cy ov sg z).done len) :
    Computes i s len d v { s.psw with cy := cy, ov := ov, s := sg, z := z } :=
  computes_of_setReg_psw (by rw [hexec, State.setFlags, State.setReg_psw])

/-! ### Bit field insert (R301) -/

/-- The word with ones below bit `n`. -/
theorem getLsbD_one_shiftLeft_sub_one (n k : Nat) (hk : k < 32) :
    ((1#32 <<< n) - 1#32).getLsbD k = decide (k < n) := by
  have hones : (1#32 <<< n) - 1#32 = ~~~(BitVec.allOnes 32 <<< n) := by
    rw [← BitVec.neg_one_eq_allOnes, BitVec.shiftLeft_neg, BitVec.not_neg]
  rw [hones, BitVec.getLsbD_not, BitVec.getLsbD_shiftLeft, BitVec.getLsbD_allOnes, Bool.eq_iff_iff]
  simp only [Bool.and_eq_true, Bool.not_eq_true', Bool.not_eq_false', Bool.and_eq_false_iff, decide_eq_true_eq,
    decide_eq_false_iff_not]
  omega

theorem fieldMask_getLsbD {msb lsb k : Nat} (h : lsb ≤ msb) (hk : k < 32) :
    (fieldMask msb lsb).getLsbD k = decide (lsb ≤ k ∧ k ≤ msb) := by
  rw [fieldMask, BitVec.getLsbD_shiftLeft, getLsbD_one_shiftLeft_sub_one _ _ (by omega), Bool.eq_iff_iff]
  simp only [Bool.and_eq_true, Bool.not_eq_true', decide_eq_true_eq, decide_eq_false_iff_not]
  omega

theorem insertField_getLsbD (old new : Word) {msb lsb k : Nat} (h : lsb ≤ msb) (hk : k < 32) :
    (insertField old new msb lsb).getLsbD k =
      if lsb ≤ k ∧ k ≤ msb then new.getLsbD (k - lsb) else old.getLsbD k := by
  rw [insertField, BitVec.getLsbD_or, BitVec.getLsbD_and, BitVec.getLsbD_and, BitVec.getLsbD_not,
    BitVec.getLsbD_shiftLeft, fieldMask_getLsbD h hk]
  by_cases hin : lsb ≤ k ∧ k ≤ msb <;> simp [hin, hk]

section

variable {s : State} {i : Instr} {len : Nat} {reg1 reg2 : Reg} {msb lsb : Nat}

/-- A field that is one: the insertion and the flags of a logical operation. -/
theorem computes_of_insertBits (hexec : exec i s = (s.insertBits reg1 reg2 msb lsb).done len) (h : lsb ≤ msb) :
    Computes i s len reg2 (insertField (s.reg reg2) (s.reg reg1) msb lsb)
      (logicFlags s.psw (insertField (s.reg reg2) (s.reg reg1) msb lsb)) :=
  computes_of_setLogic (by rw [hexec, State.insertBits, if_neg (Nat.not_lt.2 h), State.setLogic])

/-- No field (U6): free values. -/
theorem computes_of_insertBits_free (hexec : exec i s = (s.insertBits reg1 reg2 msb lsb).done len) (h : msb < lsb) :
    Computes i s len reg2 (s.freeWord 0)
      { s.psw with ov := s.freeBit 1, s := s.freeBit 2, z := s.freeBit 3 } := by
  rw [State.insertBits, if_pos h] at hexec
  refine completes_of_done hexec ?pc ?control ⟨fun r => ?reg, ?psw, fun b => ?mem⟩
  case control => simp [SameControl]
  case reg =>
    rw [State.advance_reg, State.useFree_reg, State.setOvSZ_reg]
    exact s.reg_setReg reg2 _ r
  case pc | psw | mem => simp

/-- What BINS does to the bits `msb` to `lsb`, in both cases. -/
theorem inserts_of_insertBits (hexec : exec i s = (s.insertBits reg1 reg2 msb lsb).done len) :
    (lsb ≤ msb → ∃ v : Word, (∀ k < 32, v.getLsbD k =
        if lsb ≤ k ∧ k ≤ msb then (s.reg reg1).getLsbD (k - lsb) else (s.reg reg2).getLsbD k) ∧
      Computes i s len reg2 v (logicFlags s.psw v)) ∧
    (msb < lsb → ∃ (v : Word) (ov sg z : Bool), Computes i s len reg2 v { s.psw with ov := ov, s := sg, z := z }) :=
  ⟨fun h => ⟨_, fun _ => insertField_getLsbD _ _ h, computes_of_insertBits hexec h⟩,
    fun h => ⟨_, _, _, _, computes_of_insertBits_free hexec h⟩⟩

end

/-- Settles O32: the three encodings insert between their own limits. -/
theorem bitFieldInsertComplete : Obligations.BitFieldInsertComplete :=
  fun _ _ _ _ _ => ⟨inserts_of_insertBits rfl, inserts_of_insertBits rfl, inserts_of_insertBits rfl⟩

/-! ### Swaps (R302, R303, R305, R306) -/

/-- The bytes of a word put together from four. -/
theorem byteOf_append (b3 b2 b1 b0 : Byte) :
    byteOf (b3 ++ b2 ++ b1 ++ b0) 0 = b0 ∧ byteOf (b3 ++ b2 ++ b1 ++ b0) 1 = b1 ∧
    byteOf (b3 ++ b2 ++ b1 ++ b0) 2 = b2 ∧ byteOf (b3 ++ b2 ++ b1 ++ b0) 3 = b3 := by
  refine ⟨BitVec.extractLsb'_append_eq_right, ?byte1, ?byte2, ?byte3⟩
  case byte1 =>
    exact (BitVec.extractLsb'_append_eq_of_le (by decide)).trans BitVec.extractLsb'_append_eq_right
  case byte2 =>
    exact (BitVec.extractLsb'_append_eq_of_le (by decide)).trans
      ((BitVec.extractLsb'_append_eq_of_le (by decide)).trans BitVec.extractLsb'_append_eq_right)
  case byte3 =>
    exact (BitVec.extractLsb'_append_eq_of_le (by decide)).trans
      ((BitVec.extractLsb'_append_eq_of_le (by decide)).trans BitVec.extractLsb'_append_eq_left)

/-- The halfwords of a word put together from two. -/
theorem halfOf_append (h1 h0 : Half) : halfOf (h1 ++ h0) 0 = h0 ∧ halfOf (h1 ++ h0) 1 = h1 :=
  ⟨BitVec.extractLsb'_append_eq_right, BitVec.extractLsb'_append_eq_left⟩

/-- A swapped word, with what its flags CY and Z say. -/
theorem swaps_of_setSwapped {s : State} {i : Instr} {len : Nat} {d : Reg} {v : Word} {cy z : Bool}
    {hasZero isZero : Prop} (hexec : exec i s = (s.setSwapped d v cy z).done len) (hcy : cy = true ↔ hasZero)
    (hz : z = true ↔ isZero) :
    ∃ c y : Bool, (c = true ↔ hasZero) ∧ (y = true ↔ isZero) ∧
      Computes i s len d v { s.psw with cy := c, ov := false, s := v.msb, z := y } :=
  ⟨cy, z, hcy, hz, computes_of_setReg_setFlags hexec⟩

/-- Settles O33: the bytes or halfwords of each result, and its zero tests. -/
theorem swapsComplete : Obligations.SwapsComplete := by
  intro s reg2 reg3 byte half swaps
  refine ⟨?bsh, ?bsw, swaps_of_setSwapped rfl beq_iff_eq beq_iff_eq, ?hsw⟩
  case bsh =>
    obtain ⟨h0, h1, h2, h3⟩ := byteOf_append (byteOf (s.reg reg2) 2) (byteOf (s.reg reg2) 3) (byteOf (s.reg reg2) 0)
      (byteOf (s.reg reg2) 1)
    exact ⟨_, h0, h1, h2, h3, swaps_of_setSwapped rfl (by simp [byte, byteOf]) beq_iff_eq⟩
  case bsw =>
    obtain ⟨h0, h1, h2, h3⟩ := byteOf_append (byteOf (s.reg reg2) 0) (byteOf (s.reg reg2) 1) (byteOf (s.reg reg2) 2)
      (byteOf (s.reg reg2) 3)
    exact ⟨_, h0, h1, h2, h3, swaps_of_setSwapped rfl (by simp [byte, byteOf, or_assoc]) beq_iff_eq⟩
  case hsw =>
    obtain ⟨h0, h1⟩ := halfOf_append (halfOf (s.reg reg2) 0) (halfOf (s.reg reg2) 1)
    exact ⟨_, h0, h1, swaps_of_setSwapped rfl (by simp [half, halfOf]) beq_iff_eq⟩

/-! ### Shifts and rotates (R300, R307, R308, R311, R312) -/

/-- `i` writes to `d` the word with the bits `bit`, CY as given, and the other flags of a shift. -/
def ShiftsTo (i : Instr) (s : State) (len : Nat) (d : Reg) (bit : Nat → Bool) (cy : Bool) : Prop :=
  ∃ res : Word, (∀ k < 32, res.getLsbD k = bit k) ∧
    Computes i s len d res { s.psw with cy := cy, ov := false, s := res.msb, z := decide (res = 0) }

theorem State.amount_eq (s : State) (r : Reg) : s.amount r = (s.reg r).toNat % 32 :=
  BitVec.toNat_setWidth 5 (s.reg r)

theorem State.amount_lt (s : State) (r : Reg) : s.amount r < 32 := BitVec.isLt _

theorem bne_zero_eq_decide (n : Nat) : (n != 0) = decide (n ≠ 0) :=
  Bool.eq_iff_iff.2 (bne_iff_ne.trans decide_eq_true_iff.symm)

theorem lastOutLeft_eq (v : Word) (n : Nat) : lastOutLeft v n = (decide (n ≠ 0) && v.getLsbD (32 - n)) := by
  rw [lastOutLeft, bne_zero_eq_decide]

theorem lastOutRight_eq (v : Word) (n : Nat) : lastOutRight v n = (decide (n ≠ 0) && v.getLsbD (n - 1)) := by
  rw [lastOutRight, bne_zero_eq_decide]

/-- Bit by bit, a rotation takes each bit from `n` places below, around the end (R307). -/
theorem getLsbD_rotateLeft_of_lt (v : Word) {n k : Nat} (hn : n < 32) (hk : k < 32) :
    (v.rotateLeft n).getLsbD k = v.getLsbD ((k + 32 - n) % 32) := by
  rw [BitVec.getLsbD_rotateLeft, Nat.mod_eq_of_lt hn]
  by_cases hwrap : k < n
  · have hfrom : (k + 32 - n) % 32 = 32 - n + k := by omega
    simp [hwrap, hfrom]
  · have hfrom : (k + 32 - n) % 32 = k - n := by omega
    simp [hwrap, hfrom, hk]

section

variable {s : State} {i : Instr} {len : Nat} {reg2 d : Reg} {n : Nat}

theorem shiftsTo_of_setShifted {res : Word} {bit : Nat → Bool} {cy : Bool}
    (hexec : exec i s = (s.setShifted d cy res).done len) (hbit : ∀ k < 32, res.getLsbD k = bit k) :
    ShiftsTo i s len d bit cy :=
  ⟨res, hbit, computes_of_setReg_setFlags hexec⟩

theorem shiftsTo_of_shiftLeft (hexec : exec i s = (s.shiftLeft reg2 d n).done len) :
    ShiftsTo i s len d (fun k => decide (n ≤ k) && (s.reg reg2).getLsbD (k - n))
      (decide (n ≠ 0) && (s.reg reg2).getLsbD (32 - n)) := by
  rw [← lastOutLeft_eq]
  refine shiftsTo_of_setShifted hexec fun k hk => ?_
  rw [BitVec.getLsbD_shiftLeft, decide_eq_true hk, Bool.true_and, ← decide_not, decide_eq_decide.2 Nat.not_lt]

theorem shiftsTo_of_shiftRight (hexec : exec i s = (s.shiftRight reg2 d n).done len) :
    ShiftsTo i s len d (fun k => decide (k + n < 32) && (s.reg reg2).getLsbD (k + n))
      (decide (n ≠ 0) && (s.reg reg2).getLsbD (n - 1)) := by
  rw [← lastOutRight_eq]
  refine shiftsTo_of_setShifted hexec fun k _ => ?_
  rw [BitVec.getLsbD_ushiftRight, Nat.add_comm n k, Bool.eq_iff_iff, Bool.and_eq_true, decide_eq_true_iff]
  exact (and_iff_right_of_imp BitVec.lt_of_getLsbD).symm

theorem shiftsTo_of_shiftArith (hexec : exec i s = (s.shiftArith reg2 d n).done len) :
    ShiftsTo i s len d (fun k => if k + n < 32 then (s.reg reg2).getLsbD (k + n) else (s.reg reg2).getLsbD 31)
      (decide (n ≠ 0) && (s.reg reg2).getLsbD (n - 1)) := by
  rw [← lastOutRight_eq]
  refine shiftsTo_of_setShifted hexec fun k hk => ?_
  rw [BitVec.getLsbD_sshiftRight, Nat.add_comm n k, BitVec.msb_eq_getLsbD_last]
  simp [hk]

theorem shiftsTo_of_rotate (hn : n < 32) (hexec : exec i s = (s.rotate reg2 d n).done len) :
    ShiftsTo i s len d (fun k => (s.reg reg2).getLsbD ((k + 32 - n) % 32))
      (decide (n ≠ 0) && (s.reg reg2).getLsbD (32 - n)) := by
  have hcy : (n != 0 && ((s.reg reg2).rotateLeft n).getLsbD 0) = lastOutLeft (s.reg reg2) n := by
    rw [getLsbD_rotateLeft_of_lt _ hn (by decide), lastOutLeft]
    by_cases hzero : n = 0
    · rw [hzero]
      rfl
    · have hfrom : (0 + 32 - n) % 32 = 32 - n := by omega
      rw [hfrom]
  rw [← lastOutLeft_eq, ← hcy]
  exact shiftsTo_of_setShifted hexec fun k => getLsbD_rotateLeft_of_lt _ hn

end

/-- Settles O36: each shifts or rotates by an amount below 32. -/
theorem shiftsComplete : Obligations.ShiftsComplete := by
  intro s reg1 reg2 reg3 imm5 v n
  have hn : n = s.amount reg1 := (s.amount_eq reg1).symm
  clear_value n
  subst hn
  exact ⟨shiftsTo_of_shiftLeft rfl, shiftsTo_of_shiftLeft rfl, shiftsTo_of_shiftLeft rfl,
    shiftsTo_of_shiftRight rfl, shiftsTo_of_shiftRight rfl, shiftsTo_of_shiftRight rfl,
    shiftsTo_of_shiftArith rfl, shiftsTo_of_shiftArith rfl, shiftsTo_of_shiftArith rfl,
    shiftsTo_of_rotate imm5.isLt rfl, shiftsTo_of_rotate (s.amount_lt reg1) rfl⟩

/-! ### Bit search (R317 to R320) -/

section

variable {w : Word} {b : Bool} {n : Nat}

theorem searchDown_of_none (h : ∀ q < n, w.getLsbD q ≠ b) : searchDown w b n = 0 := by
  induction n with
  | zero => rfl
  | succ n ih =>
    rw [searchDown, if_neg (h n n.lt_succ_self), ih fun q hq => h q (Nat.lt_succ_of_lt hq)]

/-- From bit `n - 1` down to the first bit equal to `b`, that one counted. -/
theorem searchDown_of_first {p : Nat} (hp : p < n) (hfound : w.getLsbD p = b)
    (hfirst : ∀ q < n, p < q → w.getLsbD q ≠ b) : searchDown w b n = n - p := by
  induction n with
  | zero => exact absurd hp p.not_lt_zero
  | succ n ih =>
    rw [searchDown]
    rcases Nat.lt_succ_iff_lt_or_eq.1 hp with hlt | rfl
    · have hrest : searchDown w b n = n - p := ih hlt fun q hq => hfirst q (Nat.lt_succ_of_lt hq)
      obtain ⟨k, hk⟩ : ∃ k, n - p = k + 1 := ⟨n - p - 1, by omega⟩
      rw [if_neg (hfirst n n.lt_succ_self hlt), hrest, hk]
      change k + 2 = n + 1 - p
      omega
    · rw [if_pos hfound]
      omega

theorem searchUp_of_none {p : Nat} (h : ∀ q < n, w.getLsbD (p + q) ≠ b) : searchUp w b p n = 0 := by
  induction n generalizing p with
  | zero => rfl
  | succ n ih =>
    have hrest : searchUp w b (p + 1) n = 0 := ih fun q hq => by
      rw [Nat.add_right_comm]
      exact h (q + 1) (Nat.succ_lt_succ hq)
    have hhere : w.getLsbD p ≠ b := h 0 n.succ_pos
    rw [searchUp, if_neg hhere, hrest]

/-- From bit `p` up to the first bit equal to `b`, `k` places above, that one counted. -/
theorem searchUp_of_first {p k : Nat} (hk : k < n) (hfound : w.getLsbD (p + k) = b)
    (hfirst : ∀ q < k, w.getLsbD (p + q) ≠ b) : searchUp w b p n = k + 1 := by
  induction n generalizing p k with
  | zero => exact absurd hk k.not_lt_zero
  | succ n ih =>
    rw [searchUp]
    cases k with
    | zero => exact if_pos hfound
    | succ k =>
      have hrest : searchUp w b (p + 1) n = k + 1 := by
        refine ih (Nat.lt_of_succ_lt_succ hk) ?_ fun q hq => ?_
        · rw [Nat.add_right_comm]
          exact hfound
        · rw [Nat.add_right_comm]
          exact hfirst (q + 1) (Nat.succ_lt_succ hq)
      have hhere : w.getLsbD p ≠ b := hfirst 0 k.succ_pos
      rw [if_neg hhere, hrest]

end

section

variable {s : State} {i : Instr} {len : Nat} {d : Reg} {w : Word} {b : Bool}

/-- A search that counts `k` bits. -/
theorem computes_of_setSearch {k : Nat} (hexec : exec i s = (s.setSearch d k).done len) :
    Computes i s len d (BitVec.ofNat 32 k)
      { s.psw with cy := decide (k = 32), ov := false, s := false, z := decide (k = 0) } :=
  computes_of_setReg_setFlags hexec

/-- A search that finds nothing. -/
theorem computes_of_setSearch_zero (hexec : exec i s = (s.setSearch d 0).done len) :
    Computes i s len d 0 { s.psw with cy := false, ov := false, s := false, z := true } :=
  computes_of_setSearch hexec

/-- The searches from the left (R317, R319). -/
theorem searchesFromLeft (hexec : exec i s = (s.setSearch d (searchDown w b 32)).done len) :
    (∀ p < 32, w.getLsbD p = b → (∀ q < 32, p < q → w.getLsbD q ≠ b) →
      Computes i s len d (BitVec.ofNat 32 (32 - p))
        { s.psw with cy := decide (p = 0), ov := false, s := false, z := false }) ∧
    ((∀ p < 32, w.getLsbD p ≠ b) →
      Computes i s len d 0 { s.psw with cy := false, ov := false, s := false, z := true }) := by
  refine ⟨fun p hp hfound hfirst => ?found, fun hnone => ?none⟩
  case found =>
    rw [searchDown_of_first hp hfound hfirst] at hexec
    have hcount := computes_of_setSearch hexec
    have hcy : decide (32 - p = 32) = decide (p = 0) := decide_eq_decide.2 (by omega)
    have hz : decide (32 - p = 0) = false := decide_eq_false (by omega)
    rwa [hcy, hz] at hcount
  case none =>
    rw [searchDown_of_none hnone] at hexec
    exact computes_of_setSearch_zero hexec

/-- The searches from the right (R318, R320). -/
theorem searchesFromRight (hexec : exec i s = (s.setSearch d (searchUp w b 0 32)).done len) :
    (∀ p < 32, w.getLsbD p = b → (∀ q < p, w.getLsbD q ≠ b) →
      Computes i s len d (BitVec.ofNat 32 (p + 1))
        { s.psw with cy := decide (p = 31), ov := false, s := false, z := false }) ∧
    ((∀ p < 32, w.getLsbD p ≠ b) →
      Computes i s len d 0 { s.psw with cy := false, ov := false, s := false, z := true }) := by
  refine ⟨fun p hp hfound hfirst => ?found, fun hnone => ?none⟩
  case found =>
    have hcount : searchUp w b 0 32 = p + 1 := searchUp_of_first hp (by simpa using hfound) (by simpa using hfirst)
    rw [hcount] at hexec
    have hcy : decide (p + 1 = 32) = decide (p = 31) := decide_eq_decide.2 (by omega)
    rw [← hcy]
    exact computes_of_setSearch hexec
  case none =>
    have hcount : searchUp w b 0 32 = 0 := searchUp_of_none (by simpa using hnone)
    rw [hcount] at hexec
    exact computes_of_setSearch_zero hexec

end

/-- Settles O38: each writes the count of one search. -/
theorem bitSearchesComplete : Obligations.BitSearchesComplete :=
  fun _ _ _ => ⟨searchesFromLeft rfl, searchesFromLeft rfl, searchesFromRight rfl, searchesFromRight rfl⟩

/-! ### Conditional moves and extensions (R304, R309, R310, R313 to R316) -/

/-- A bit shifted in from the right doubles the word and adds the bit (R309). -/
theorem shiftLeft_one_or_ofBool (x : Word) (c : Bool) :
    (x <<< 1) ||| (BitVec.ofBool c).setWidth 32 = BitVec.ofNat 32 (2 * x.toNat + if c then 1 else 0) := by
  have happend : (2 * x.toNat + if c then 1 else 0) = (x ++ BitVec.ofBool c).toNat := by
    rw [toNat_append_eq, BitVec.toNat_ofBool, Bool.toNat, Nat.mul_comm]
    cases c <;> rfl
  rw [happend, BitVec.ofNat_toNat]
  apply BitVec.eq_of_getLsbD_eq
  intro k hk
  rw [BitVec.getLsbD_or, BitVec.getLsbD_shiftLeft, BitVec.getLsbD_setWidth, BitVec.getLsbD_setWidth,
    BitVec.getLsbD_append]
  cases k with
  | zero => simp
  | succ k => simp [hk]

/-- Settles O35: each writes one register. -/
theorem conditionalMovesComplete : Obligations.ConditionalMovesComplete := by
  intro s cond reg1 reg2 reg3 imm5
  refine ⟨computes_of_setReg rfl, computes_of_setReg rfl, computes_of_setReg rfl, ?sasf⟩
  rw [← shiftLeft_one_or_ofBool]
  exact computes_of_setReg rfl

/-- Zero extension of the low `n` bits keeps the remainder by 2^n. -/
theorem setWidth_setWidth_eq_ofNat_mod (a : Word) (n : Nat) :
    (a.setWidth n).setWidth 32 = BitVec.ofNat 32 (a.toNat % 2 ^ n) := by
  rw [← BitVec.toNat_setWidth, BitVec.ofNat_toNat]

/-- Settles O37: each writes its register with the extension of its low part. -/
theorem extensionsComplete : Obligations.ExtensionsComplete := by
  intro s reg1
  have hbyte : (s.reg reg1).extractLsb' 0 8 = (s.reg reg1).setWidth 8 :=
    (BitVec.setWidth_eq_extractLsb' (by decide)).symm
  rw [hbyte, lowHalf_eq_setWidth, ← setWidth_setWidth_eq_ofNat_mod, ← setWidth_setWidth_eq_ofNat_mod]
  exact ⟨computes_of_setReg rfl, computes_of_setReg rfl, computes_of_setReg rfl, computes_of_setReg rfl⟩

end Sys2Proof.Machine
end

section
/-!
SETTLES O39 and O40. The divide instructions: by a nonzero divisor each completes with the quotient and the remainder of
its rule; by 0, or where both results go to one register, with free values (spec/44_divide.md R330 to R336).
-/
namespace Sys2Proof.Machine

open Sys2Proof

/-! ### Quotients and remainders (R330 (a), (d), (e)) -/

/-- `q` and `m` are the quotient and the remainder of `a` by `b` as signed words, `ov` the overflow of 80000000H / -1. -/
def SignedDivides (a b q m : Word) (ov : Bool) : Prop :=
  (a = 0x80000000 ∧ b = 0xFFFFFFFF ∧ q = 0x80000000 ∧ m = 0 ∧ ov = true) ∨
  (¬ (a = 0x80000000 ∧ b = 0xFFFFFFFF) ∧ ov = false ∧ a.toInt = q.toInt * b.toInt + m.toInt ∧
    m.toInt.natAbs < b.toInt.natAbs ∧ (m.toInt < 0 → a.toInt < 0) ∧ (0 < m.toInt → 0 < a.toInt))

/-- `q` and `m` are the quotient and the remainder of `a` by `b` as unsigned words, which never overflow. -/
def UnsignedDivides (a b q m : Word) (ov : Bool) : Prop :=
  a.toNat = q.toNat * b.toNat + m.toNat ∧ m.toNat < b.toNat ∧ ov = false

section

variable {a b : Word}

theorem divideSigned_eq_none (h : b = 0) : divideSigned a b = none := if_pos h

theorem divideUnsigned_eq_none (h : b = 0) : divideUnsigned a b = none := if_pos h

/-- The model's signed results are those of `BitVec.sdiv` and `BitVec.srem`. -/
theorem divideSigned_of_ne_zero (h : b ≠ 0) :
    divideSigned a b = some ⟨a.sdiv b, a.srem b, a == 0x80000000#32 && b == 0xFFFFFFFF#32⟩ := by
  have hquot : BitVec.ofInt 32 (a.toInt.tdiv b.toInt) = a.sdiv b :=
    BitVec.toInt_inj.1 (by rw [BitVec.toInt_ofInt, BitVec.toInt_sdiv])
  have hrem : BitVec.ofInt 32 (a.toInt.tmod b.toInt) = a.srem b := by rw [← BitVec.toInt_srem, BitVec.ofInt_toInt]
  rw [divideSigned, if_neg h, hquot, hrem]

/-- The model's unsigned results are those of `/` and `%`. -/
theorem divideUnsigned_of_ne_zero (h : b ≠ 0) : divideUnsigned a b = some ⟨a / b, a % b, false⟩ := by
  rw [divideUnsigned, if_neg h, ← BitVec.udiv_def, ← BitVec.umod_def]

/-- A truncated division leaves a remainder smaller than the divisor and of the dividend's sign (D27). -/
theorem tmod_bounds (x : Int) {y : Int} (hy : y ≠ 0) :
    (x.tmod y).natAbs < y.natAbs ∧ (x.tmod y < 0 → x < 0) ∧ (0 < x.tmod y → 0 < x) := by
  refine ⟨?small, ?negative, ?positive⟩
  case small =>
    rw [Int.natAbs_tmod]
    exact Nat.mod_lt _ (Int.natAbs_pos.2 hy)
  case negative =>
    intro hneg
    by_contra hx
    exact absurd (Int.tmod_nonneg y (Int.not_lt.1 hx)) (Int.not_le.2 hneg)
  case positive =>
    intro hpos
    by_contra hx
    have hflip : 0 ≤ (-x).tmod y := Int.tmod_nonneg y (by omega)
    rw [Int.neg_tmod] at hflip
    omega

theorem signedDivides_of_ne_zero (h : b ≠ 0) :
    SignedDivides a b (a.sdiv b) (a.srem b) (a == 0x80000000#32 && b == 0xFFFFFFFF#32) := by
  by_cases hover : a = 0x80000000 ∧ b = 0xFFFFFFFF
  · obtain ⟨rfl, rfl⟩ := hover
    exact .inl (by decide)
  · have hov : (a == 0x80000000#32 && b == 0xFFFFFFFF#32) = false := by simpa using hover
    have hquot : (a.sdiv b).toInt = a.toInt.tdiv b.toInt :=
      BitVec.toInt_sdiv_of_ne_or_ne a b (Decidable.not_and_iff_or_not.1 hover)
    have hb : b.toInt ≠ 0 := fun hzero => h (BitVec.toInt_inj.1 hzero)
    refine .inr ⟨hover, hov, ?_⟩
    rw [hquot, BitVec.toInt_srem, Int.tdiv_mul_add_tmod]
    exact ⟨rfl, tmod_bounds a.toInt hb⟩

theorem unsignedDivides_of_ne_zero (h : b ≠ 0) : UnsignedDivides a b (a / b) (a % b) false := by
  have hb : 0 < b.toNat := Nat.pos_of_ne_zero fun hzero => h (BitVec.eq_of_toNat_eq hzero)
  rw [UnsignedDivides, BitVec.toNat_udiv, BitVec.toNat_umod]
  exact ⟨(Nat.div_add_mod' _ _).symm, Nat.mod_lt _ hb, rfl⟩

/-- A halfword other than 0 is a divisor other than 0 (R332). -/
theorem signExtend_ne_zero {x : Half} (h : x ≠ 0) : x.signExtend 32 ≠ 0 := fun hzero => by
  have hvalue : x.toInt = (0 : Half).toInt := by
    rw [← BitVec.toInt_signExtend_of_le (v := 32) (by decide), hzero]
    rfl
  exact h (BitVec.toInt_inj.1 hvalue)

end

/-! ### What `setDivision` and `setQuotient` write (R330) -/

/-- Both results to one register: the remainder or a free word, and free flags (U8). -/
theorem State.setDivision_same (s : State) (r : Reg) (d : Option Division) :
    s.setDivision r r d =
      ((s.setReg r (d.elim (s.freeWord 0) Division.remainder)).setOvSZ (s.freeBit 1) (s.freeBit 2)
        (s.freeBit 3)).useFree 4 := by
  cases d <;> simp [State.setDivision]

theorem State.setDivision_some {reg2 reg3 : Reg} (s : State) (hne : reg2 ≠ reg3) (q m : Word) (ov : Bool) :
    s.setDivision reg2 reg3 (some ⟨q, m, ov⟩) = ((s.setReg reg2 q).setReg reg3 m).setOvSZ ov q.msb (q == 0) := by
  rw [State.setDivision, if_neg hne]

theorem State.setDivision_none {reg2 reg3 : Reg} (s : State) (hne : reg2 ≠ reg3) :
    s.setDivision reg2 reg3 none =
      (((s.setReg reg2 (s.freeWord 1)).setReg reg3 (s.freeWord 0)).setOvSZ true (s.freeBit 2)
        (s.freeBit 3)).useFree 4 := by
  rw [State.setDivision, if_neg hne]

section

variable {s : State} {i : Instr} {len : Nat} {reg2 reg3 : Reg} {d : Option Division}

/-- One register and OV, S and Z written, and `n` free values used. -/
theorem computes_of_setReg_setOvSZ {r : Reg} {v : Word} {ov sg z : Bool} (n : Nat)
    (hexec : exec i s = (((s.setReg r v).setOvSZ ov sg z).useFree n).done len) :
    Computes i s len r v { s.psw with ov := ov, s := sg, z := z } := by
  refine completes_of_done hexec ?pc ?control ⟨s.reg_setReg r v, ?psw, fun b => ?mem⟩
  case control => simp [SameControl]
  case pc | psw | mem => simp

/-- Two registers and OV, S and Z written, and `n` free values used. -/
theorem completes_of_setReg_setReg_setOvSZ {q m : Word} {ov sg z : Bool} (n : Nat)
    (hexec : exec i s = ((((s.setReg reg2 q).setReg reg3 m).setOvSZ ov sg z).useFree n).done len) :
    Completes i s len fun t =>
      RegsAre s t reg2 q reg3 m ∧ t.psw = { s.psw with ov := ov, s := sg, z := z } ∧ SameMemory s t := by
  refine completes_of_done hexec ?pc ?control ⟨s.setReg_setReg_regsAre reg2 reg3 q m, ?psw, fun b => ?mem⟩
  case control => simp [SameControl]
  case pc | psw | mem => simp

/-- A division whose results go to two registers. -/
theorem completes_of_setDivision {q m : Word} {ov : Bool} (hd : d = some ⟨q, m, ov⟩) (hne : reg2 ≠ reg3)
    (hexec : exec i s = (s.setDivision reg2 reg3 d).done len) :
    Completes i s len fun t => RegsAre s t reg2 q reg3 m ∧
      t.psw = { s.psw with ov := ov, s := q.msb, z := decide (q = 0) } ∧ SameMemory s t :=
  completes_of_setReg_setReg_setOvSZ 0 (by
    rw [hexec, hd, s.setDivision_some hne]
    rfl)

/-- A division by 0 whose results go to two registers (U7). -/
theorem completes_of_setDivision_none (hd : d = none) (hne : reg2 ≠ reg3)
    (hexec : exec i s = (s.setDivision reg2 reg3 d).done len) :
    ∃ (q m : Word) (sg z : Bool), Completes i s len fun t =>
      RegsAre s t reg2 q reg3 m ∧ t.psw = { s.psw with ov := true, s := sg, z := z } ∧ SameMemory s t :=
  ⟨_, _, _, _, completes_of_setReg_setReg_setOvSZ 4 (by rw [hexec, hd, s.setDivision_none hne])⟩

/-- A division whose results go to one register (U8). -/
theorem computes_of_setDivision_same (heq : reg2 = reg3) (hexec : exec i s = (s.setDivision reg2 reg3 d).done len) :
    ∃ ov sg z : Bool, Computes i s len reg3 (d.elim (s.freeWord 0) Division.remainder)
      { s.psw with ov := ov, s := sg, z := z } :=
  ⟨_, _, _, computes_of_setReg_setOvSZ 4 (by rw [hexec, heq, s.setDivision_same])⟩

/-- A division that writes its quotient alone (R332). -/
theorem computes_of_setQuotient {q m : Word} {ov : Bool} (hd : d = some ⟨q, m, ov⟩)
    (hexec : exec i s = (s.setQuotient reg2 d).done len) :
    Computes i s len reg2 q { s.psw with ov := ov, s := q.msb, z := decide (q = 0) } :=
  computes_of_setReg_setOvSZ 0 (by
    rw [hexec, hd]
    rfl)

/-- A division by 0 that writes a quotient alone (U7). -/
theorem computes_of_setQuotient_none (hd : d = none) (hexec : exec i s = (s.setQuotient reg2 d).done len) :
    ∃ (q : Word) (sg z : Bool), Computes i s len reg2 q { s.psw with ov := true, s := sg, z := z } :=
  ⟨_, _, _, computes_of_setReg_setOvSZ 3 (by
    rw [hexec, hd]
    rfl)⟩

end

/-! ### Signed and unsigned divisions -/

section

variable {s : State} {i : Instr} {len : Nat} {reg2 reg3 : Reg} {a b : Word}

theorem signed_of_setDivision (hexec : exec i s = (s.setDivision reg2 reg3 (divideSigned a b)).done len) (hb : b ≠ 0)
    (hne : reg2 ≠ reg3) : ∃ q m ov, SignedDivides a b q m ov ∧ Completes i s len fun t =>
      RegsAre s t reg2 q reg3 m ∧ t.psw = { s.psw with ov := ov, s := q.msb, z := decide (q = 0) } ∧ SameMemory s t :=
  ⟨_, _, _, signedDivides_of_ne_zero hb, completes_of_setDivision (divideSigned_of_ne_zero hb) hne hexec⟩

theorem unsigned_of_setDivision (hexec : exec i s = (s.setDivision reg2 reg3 (divideUnsigned a b)).done len)
    (hb : b ≠ 0) (hne : reg2 ≠ reg3) : ∃ q m ov, UnsignedDivides a b q m ov ∧ Completes i s len fun t =>
      RegsAre s t reg2 q reg3 m ∧ t.psw = { s.psw with ov := ov, s := q.msb, z := decide (q = 0) } ∧ SameMemory s t :=
  ⟨_, _, _, unsignedDivides_of_ne_zero hb, completes_of_setDivision (divideUnsigned_of_ne_zero hb) hne hexec⟩

/-- What a divide of two results leaves open: all but OV by the divisor 0, all but the remainder `rem` in one
register. -/
def DividesOpenly (i : Instr) (s : State) (len : Nat) (reg2 reg3 : Reg) (b rem : Word) : Prop :=
  (b = 0 → reg2 ≠ reg3 → ∃ (q m : Word) (sg z : Bool), Completes i s len fun t =>
    RegsAre s t reg2 q reg3 m ∧ t.psw = { s.psw with ov := true, s := sg, z := z } ∧ SameMemory s t) ∧
  (reg2 = reg3 → ∃ (m : Word) (ov sg z : Bool), (b ≠ 0 → m = rem) ∧
    Computes i s len reg3 m { s.psw with ov := ov, s := sg, z := z })

theorem dividesOpenly_of_setDivision {d : Option Division} {rem : Word}
    (hexec : exec i s = (s.setDivision reg2 reg3 d).done len) (hzero : b = 0 → d = none)
    (hrem : b ≠ 0 → d.elim (s.freeWord 0) Division.remainder = rem) : DividesOpenly i s len reg2 reg3 b rem := by
  refine ⟨fun hb hne => completes_of_setDivision_none (hzero hb) hne hexec, fun heq => ?same⟩
  obtain ⟨ov, sg, z, hsame⟩ := computes_of_setDivision_same heq hexec
  exact ⟨_, ov, sg, z, hrem, hsame⟩

theorem signed_dividesOpenly (hexec : exec i s = (s.setDivision reg2 reg3 (divideSigned a b)).done len) :
    DividesOpenly i s len reg2 reg3 b (BitVec.ofInt 32 (a.toInt.tmod b.toInt)) :=
  dividesOpenly_of_setDivision hexec divideSigned_eq_none fun hb => by
    rw [divideSigned, if_neg hb]
    rfl

theorem unsigned_dividesOpenly (hexec : exec i s = (s.setDivision reg2 reg3 (divideUnsigned a b)).done len) :
    DividesOpenly i s len reg2 reg3 b (BitVec.ofNat 32 (a.toNat % b.toNat)) :=
  dividesOpenly_of_setDivision hexec divideUnsigned_eq_none fun hb => by
    rw [divideUnsigned, if_neg hb]
    rfl

end

/-! ### The instructions -/

/-- Settles O39: each divides by its register or by its lower halfword, extended. -/
theorem divisionsComplete : Obligations.DivisionsComplete := by
  intro s reg1 reg2 reg3 a half
  have hhalf : half = (s.reg reg1).setWidth 16 := lowHalf_eq_setWidth _
  clear_value half
  subst hhalf
  refine ⟨signed_of_setDivision rfl, signed_of_setDivision rfl, signed_of_setDivision rfl,
    unsigned_of_setDivision rfl, unsigned_of_setDivision rfl, unsigned_of_setDivision rfl, fun hne => ?divh2⟩
  have hb := signExtend_ne_zero hne
  exact ⟨_, _, _, signedDivides_of_ne_zero hb, computes_of_setQuotient (divideSigned_of_ne_zero hb) rfl⟩

/-- Settles O40: the divisor is 0, or the quotient and the remainder go to one register. -/
theorem divisionsWithOpenResults : Obligations.DivisionsWithOpenResults := by
  intro s reg1 reg2 reg3 a half
  have hhalf : half = (s.reg reg1).setWidth 16 := lowHalf_eq_setWidth _
  clear_value half
  subst hhalf
  refine ⟨signed_dividesOpenly rfl, signed_dividesOpenly rfl, signed_dividesOpenly rfl,
    unsigned_dividesOpenly rfl, unsigned_dividesOpenly rfl, unsigned_dividesOpenly rfl, fun hzero => ?divh2⟩
  have hb : ((s.reg reg1).setWidth 16).signExtend 32 = 0 := by
    rw [hzero]
    rfl
  exact computes_of_setQuotient_none (divideSigned_eq_none hb) rfl

end Sys2Proof.Machine
end

section
/-!
SETTLES O42 and O41. The branches and LOOP: each goes to its target with bit 0 dropped and changes no more than its link
register, or its counter and the flags (spec/45_branch_loop.md R340 to R345).
-/
namespace Sys2Proof.Machine

open Sys2Proof

/-! ### Going to a target (R340) -/

section

variable {s : State} {i : Instr} {target : Word}

theorem jumps_of_jump (hexec : exec i s = s.jump target) : Jumps i s target :=
  ⟨s.setPc target, hexec, s.setPc_pc target, s.setPc_reg target, s.setPc_psw target, s.setPc_byteAt target,
    rfl, rfl, rfl, rfl, rfl, rfl⟩

/-- Going on is going to the next instruction. -/
theorem jumps_of_done {len : Nat} (hexec : exec i s = s.done len) : Jumps i s (s.pc + BitVec.ofNat 32 len) :=
  jumps_of_jump hexec

theorem jumpsLinking_of_setReg_jump {d : Reg} {v : Word} (hexec : exec i s = (s.setReg d v).jump target) :
    JumpsLinking i s target d v :=
  ⟨_, hexec, State.setPc_pc _ _, s.reg_setReg d v, s.setReg_psw d v, s.setReg_byteAt d v, s.setReg_sameControl d v⟩

end

/-! ### LOOP (R345) -/

theorem add_neg_one_carry_iff (a : Word) :
    2 ^ 32 ≤ a.toNat + (0xFFFFFFFF : Word).toNat + false.toNat ↔ a ≠ 0 := by
  have hneg : (0xFFFFFFFF : Word).toNat = 2 ^ 32 - 1 := rfl
  have hzero : (0 : Word).toNat = 0 := rfl
  rw [ne_eq, ← BitVec.toNat_inj, hneg, hzero, Bool.toNat_false]
  omega

/-- The least signed word is the only one that adding -1 takes out of 32 bits. -/
theorem add_neg_one_overflow_iff (a : Word) :
    (a.toInt + (0xFFFFFFFF : Word).toInt + false.toNat < -2 ^ 31 ∨
      2 ^ 31 - 1 < a.toInt + (0xFFFFFFFF : Word).toInt + false.toNat) ↔ a = 0x80000000 := by
  have hneg : (0xFFFFFFFF : Word).toInt = -1 := by decide
  have hmin : (0x80000000 : Word).toInt = -2 ^ 31 := by decide
  have hlow : -2 ^ 31 ≤ a.toInt := BitVec.le_toInt a
  have hhigh : a.toInt < 2 ^ 31 := BitVec.toInt_lt
  rw [← BitVec.toInt_inj, hneg, hmin, Bool.toNat_false]
  omega

theorem add_neg_one_eq (a : Word) : a + 0xFFFFFFFF + BitVec.ofNat 32 false.toNat = a - 1 := by
  rw [Bool.toNat_false, BitVec.add_zero]
  exact (BitVec.sub_eq_add_neg a 1).symm

/-- The flags of counting down by one, as ADD sets them for the addend -1 (R240). -/
theorem addFlags_neg_one (p : Psw) (a : Word) :
    addFlags p a 0xFFFFFFFF false =
      { p with
        cy := decide (a ≠ 0)
        ov := decide (a = 0x80000000)
        s := (a - 1).msb
        z := decide (a = 1) } := by
  simp only [addFlags, add_neg_one_carry_iff, add_neg_one_overflow_iff, add_neg_one_eq, sub_eq_zero]

/-- Bit 0 of a displacement is not encoded and is 0: the field is half of it (R165, R340). -/
theorem setWidth_append_zero_eq_two_mul (d : BitVec 15) : (d ++ 0#1).setWidth 32 = 2 * d.setWidth 32 := by
  apply BitVec.eq_of_toNat_eq
  rw [BitVec.toNat_setWidth_of_le (by decide), toNat_append_eq, BitVec.toNat_mul,
    BitVec.toNat_setWidth_of_le (by decide)]
  have htwo : (2 : Word).toNat = 2 := rfl
  have hd := d.isLt
  rw [htwo, BitVec.toNat_zero]
  omega

/-- LOOP writes its counter and the flags, and goes back unless the count has reached 0. -/
theorem exec_loop (s : State) (reg1 : Reg) (d : BitVec 15) :
    exec (.loop reg1 d) s =
      State.jump { s.setReg reg1 (s.reg reg1 - 1) with psw := addFlags s.psw (s.reg reg1) 0xFFFFFFFF false }
        (if s.reg reg1 = 1 then s.pc + 4 else s.pc - 2 * d.setWidth 32) := by
  change execLoop reg1 d s = _
  simp only [execLoop, State.setArithFlags_add32, State.setReg_psw, add32_res, add_neg_one_eq, sub_eq_zero,
    setWidth_append_zero_eq_two_mul]
  split
  case isTrue =>
    rw [State.done, State.advance, State.setReg_pc]
    rfl
  case isFalse => rfl

/-! ### The instructions -/

/-- Settles O42: LOOP adds -1 with the flags of `add32`, and its field is half the way back. -/
theorem loopCompletes : Obligations.LoopCompletes := by
  intro s reg1 d _
  rw [← addFlags_neg_one]
  exact ⟨_, exec_loop s reg1 d, s.reg_setReg reg1 _, State.setPc_pc _ _, rfl, s.setReg_byteAt reg1 _,
    s.setReg_sameControl reg1 _⟩

/-- Settles O41: Bcond by its condition; the others go to their target whatever the flags. -/
theorem branchesComplete : Obligations.BranchesComplete := by
  intro s cond reg1 reg2 d8 d16 d21 d31
  refine ⟨fun hcond => ?taken, fun hcond => ?notTaken, jumps_of_jump rfl, jumps_of_jump rfl, jumps_of_jump rfl,
    jumps_of_jump rfl, jumpsLinking_of_setReg_jump rfl, jumpsLinking_of_setReg_jump rfl,
    jumpsLinking_of_setReg_jump rfl⟩
  case taken => exact ⟨jumps_of_jump (if_pos hcond), jumps_of_jump (if_pos hcond)⟩
  case notTaken =>
    have hnot : ¬ s.cond cond = true := by
      rw [State.cond, hcond]
      exact Bool.false_ne_true
    exact ⟨jumps_of_done (if_neg hnot), jumps_of_done (if_neg hnot)⟩

end Sys2Proof.Machine
end

section
/-!
SETTLES O43. The bit manipulations: each reads the byte of its access, takes Z from one bit of it and, but for TST1,
writes the byte back with that bit changed (spec/46_bit_manipulation.md R355 to R359).
-/
namespace Sys2Proof.Machine

open Sys2Proof

/-! ### One byte of memory -/

/-- A read of one byte has the bits of that byte. -/
theorem getLsbD_readLE_byte (s : State) (a : Word) (k : Nat) :
    (s.readLE a 1).getLsbD k = (s.byteAt a).getLsbD k := by
  rw [State.readLE_one, BitVec.getLsbD_setWidth, Bool.and_eq_right_iff_imp, decide_eq_true_eq]
  exact fun hbit => (BitVec.lt_of_getLsbD hbit).trans (by decide)

/-- A store of one byte leaves the low byte of its value. -/
theorem State.byteAt_writeLE_byte (s : State) (a : Word) (v : Dword) : (s.writeLE a v 1).byteAt a = v.setWidth 8 := by
  have h := s.byteAt_writeLE_of_lt a v 1 (by decide) 0 (by decide)
  rwa [BitVec.add_zero, Nat.mul_zero, ← BitVec.setWidth_eq_extractLsb' (by decide)] at h

/-! ### One bit of a byte (R355) -/

/-- The bit number in a register is its lower three bits. -/
theorem State.toNat_bitNumber (s : State) (r : Reg) : (s.bitNumber r).toNat = (s.reg r).toNat % 8 :=
  BitVec.toNat_setWidth ..

/-- `f` does to the low byte of a value what `g` does to a byte, given the low byte of the mask. -/
def ActsOnByte (f : Dword → Dword → Dword) (g : Byte → Byte → Byte) : Prop :=
  ∀ v m : Dword, (f v m).setWidth 8 = g (v.setWidth 8) (m.setWidth 8)

theorem setBit_actsOnByte : ActsOnByte setBit (· ||| ·) := fun _ _ => BitVec.setWidth_or

theorem clearBit_actsOnByte : ActsOnByte clearBit (· &&& ~~~·) := fun v m => by
  rw [clearBit, BitVec.setWidth_and, BitVec.setWidth_not (by decide)]

theorem notBit_actsOnByte : ActsOnByte notBit (· ^^^ ·) := fun _ _ => BitVec.setWidth_xor

/-- The mask of one bit, in an access and in a byte. -/
theorem setWidth_one_shiftLeft (n : Nat) : (1#64 <<< n).setWidth 8 = 1#8 <<< n :=
  BitVec.setWidth_shiftLeft_of_le (by decide)

/-- On the value read at `a`, `f` does what `g` does with the byte there. -/
theorem ActsOnByte.apply_readLE {f : Dword → Dword → Dword} {g : Byte → Byte → Byte} (h : ActsOnByte f g) (s : State)
    (a : Word) (n : Nat) : (f (s.readLE a 1) (1#64 <<< n)).setWidth 8 = g (s.byteAt a) (1#8 <<< n) := by
  rw [h, setWidth_one_shiftLeft, State.readLE_one, BitVec.setWidth_setWidth_of_le _ (by decide), BitVec.setWidth_eq]

/-! ### Changing a bit and testing one -/

section

variable {s : State} {i : Instr} {a : Word} {b : BitVec 3} {n : Nat}

/-- SET1, CLR1 and NOT1 (R356 to R358), whichever way `f` changes the bit. -/
theorem changesBit_of_changeBit {f : Dword → Dword → Dword} {g : Byte → Byte → Byte} (hf : ActsOnByte f g)
    (hn : b.toNat = n) (hexec : exec i s = s.changeBit a b f) (hread : CanRead s s.psw.um a 1)
    (hwrite : CanWrite s a 1) : ChangesBit i s a (g (s.byteAt a) (1#8 <<< n)) (!(s.byteAt a).getLsbD n) := by
  subst hn
  rw [State.changeBit, State.memModify_of_can hread hwrite] at hexec
  have hcontrol := (s.markLoaded a 1).writeLE_sameControl a (f (s.readLE a 1) (1#64 <<< b.toNat)) 1
  refine completes_of_done hexec ?pc hcontrol ⟨fun r => ?reg, ?psw, ?changed, fun c hc => ?others⟩
  case psw => simp [getLsbD_readLE_byte]
  case changed => exact (State.byteAt_writeLE_byte ..).trans (hf.apply_readLE s a b.toNat)
  case others => exact State.byteAt_writeLE_of_le _ a _ 1 (by decide) c hc
  case pc | reg => simp

/-- TST1 (R359). -/
theorem setsFlags_of_testBit (hn : b.toNat = n) (hexec : exec i s = s.testBit a b) (hread : CanRead s s.psw.um a 1) :
    SetsFlags i s 4 { s.psw with z := !(s.byteAt a).getLsbD n } := by
  subst hn
  rw [State.testBit, State.memRead_of_canRead hread] at hexec
  refine completes_of_done hexec rfl ⟨rfl, rfl, rfl, rfl, rfl, rfl⟩ ⟨fun _ => rfl, ?psw, fun _ => rfl⟩
  case psw => simp [getLsbD_readLE_byte]

end

/-! ### The instructions -/

/-- Settles O43: each instruction changes or tests the bit of its field or of its register. -/
theorem bitManipulationsComplete : Obligations.BitManipulationsComplete := by
  intro s i x hx hread
  cases i with
  | set1 =>
    obtain rfl := Option.some.inj hx
    exact changesBit_of_changeBit setBit_actsOnByte rfl rfl hread
  | set1Reg _ r =>
    obtain rfl := Option.some.inj hx
    exact changesBit_of_changeBit setBit_actsOnByte (s.toNat_bitNumber r) rfl hread
  | clr1 =>
    obtain rfl := Option.some.inj hx
    exact changesBit_of_changeBit clearBit_actsOnByte rfl rfl hread
  | clr1Reg _ r =>
    obtain rfl := Option.some.inj hx
    exact changesBit_of_changeBit clearBit_actsOnByte (s.toNat_bitNumber r) rfl hread
  | not1 =>
    obtain rfl := Option.some.inj hx
    exact changesBit_of_changeBit notBit_actsOnByte rfl rfl hread
  | not1Reg _ r =>
    obtain rfl := Option.some.inj hx
    exact changesBit_of_changeBit notBit_actsOnByte (s.toNat_bitNumber r) rfl hread
  | tst1 =>
    obtain rfl := Option.some.inj hx
    exact setsFlags_of_testBit rfl rfl hread
  | tst1Reg _ r =>
    obtain rfl := Option.some.inj hx
    exact setsFlags_of_testBit (s.toNat_bitNumber r) rfl hread
  | _ => trivial

end Sys2Proof.Machine
end

section
/-!
SETTLES O44 to O46. The special instructions that read a table or exchange a word: CAXI, CALLT, SWITCH and SYSCALL where
their access may be made, and CTRET (spec/47_special.md R365, R366, R368, R387, R397).
-/
namespace Sys2Proof.Machine

open Sys2Proof

/-! ### Addresses of table entries -/

theorem shiftLeft_one_eq_two_mul (v : Word) : v <<< 1 = 2 * v := by
  rw [BitVec.shiftLeft_eq_mul_twoPow, BitVec.mul_comm]
  rfl

/-- The offset of an entry of the CALLT table (R365). -/
theorem callt_offset_eq (imm6 : BitVec 6) : (imm6 ++ 0#1).setWidth 32 = 2 * imm6.setWidth 32 := by
  revert imm6
  decide

/-- The index of the SYSCALL table in numbers: the vector, or 0 where SCCFG.SIZE is below it (R397). -/
theorem State.syscallEntry_eq_toNat (s : State) (v : BitVec 8) :
    s.syscallEntry v = s.sys.scbp + 4 * (if v.toNat ≤ s.sys.sccfg.toNat % 256 then v.setWidth 32 else 0) := by
  have hsize : v ≤ s.sys.sccfg.setWidth 8 ↔ v.toNat ≤ s.sys.sccfg.toNat % 256 := by
    rw [BitVec.le_def, BitVec.toNat_setWidth]
  rw [s.syscallEntry_eq, apply_ite (BitVec.setWidth 32), if_congr hsize rfl rfl]
  rfl

/-! ### CAXI (R366) -/

/-- A word is a function of the bytes of memory. -/
theorem State.wordAt_congr {s t : State} (h : SameMemory s t) (a : Word) : t.wordAt a = s.wordAt a := by
  simp only [State.wordAt, h _]

/-- The word at an address where four bytes were stored. -/
theorem State.wordAt_writeLE (s : State) (a : Word) (v : Dword) : (s.writeLE a v 4).wordAt a = v.low := by
  apply BitVec.eq_of_getLsbD_eq
  intro i hi
  rw [getLsbD_wordAt _ _ _ hi, s.byteAt_writeLE_of_lt a v 4 (by decide) (i / 8) (by omega), Dword.low,
    BitVec.getLsbD_extractLsb', BitVec.getLsbD_extractLsb', Nat.zero_add, Nat.div_add_mod,
    decide_eq_true (Nat.mod_lt i (by decide)), decide_eq_true hi]

/-- The comparison of CAXI finds its two words equal where their difference is 0. -/
theorem sub32_false_res_eq_zero_iff (a b : Word) : (sub32 a b false).res = 0 ↔ a = b := by
  rw [sub32_res, Bool.toNat_false, BitVec.sub_zero, sub_eq_zero]

theorem low_setWidth (v : Word) : Dword.low (v.setWidth 64) = v := by
  rw [Dword.low, ← BitVec.setWidth_eq_extractLsb' (by decide), BitVec.setWidth_setWidth_of_le _ (by decide),
    BitVec.setWidth_eq]

/-- What CAXI stores: reg3 where reg2 equals the word read, else what was read. -/
def State.caxiStores (s : State) (reg1 reg2 reg3 : Reg) : Dword :=
  if s.reg reg2 = s.wordAt (s.reg reg1) then (s.reg reg3).setWidth 64 else s.readLE (s.reg reg1) 4

theorem State.low_caxiStores (s : State) (reg1 reg2 reg3 : Reg) :
    (s.caxiStores reg1 reg2 reg3).low =
      if s.reg reg2 = s.wordAt (s.reg reg1) then s.reg reg3 else s.wordAt (s.reg reg1) := by
  rw [State.caxiStores, apply_ite Dword.low, low_setWidth, low_readLE s _ 4 (Nat.le_refl 4)]

/-- The state after the write of CAXI. -/
def State.caxiWritten (s : State) (reg1 reg2 reg3 : Reg) : State :=
  (s.markLoaded (s.reg reg1) 4).writeLE (s.reg reg1) (s.caxiStores reg1 reg2 reg3) 4

theorem State.wordAt_caxiWritten (s : State) (reg1 reg2 reg3 : Reg) :
    (s.caxiWritten reg1 reg2 reg3).wordAt (s.reg reg1) =
      if s.reg reg2 = s.wordAt (s.reg reg1) then s.reg reg3 else s.wordAt (s.reg reg1) := by
  rw [State.caxiWritten, State.wordAt_writeLE, State.low_caxiStores]

/-- CAXI writes memory, then reg3 and the flags of `sub32`. -/
theorem exec_caxi {s : State} {reg1 : Reg} (reg2 reg3 : Reg) (hread : CanRead s s.psw.um (s.reg reg1) 4)
    (hwrite : CanWrite s (s.reg reg1) 4) :
    exec (.caxi reg1 reg2 reg3) s =
      State.done
        { (s.caxiWritten reg1 reg2 reg3).setReg reg3 (s.wordAt (s.reg reg1)) with
          psw := subFlags s.psw (s.reg reg2) (s.wordAt (s.reg reg1)) false } 4 := by
  change execCaxi reg1 reg2 reg3 s = _
  rw [execCaxi, State.memModify_of_can hread hwrite]
  simp only [Access.andThen, low_readLE s _ 4 (Nat.le_refl 4), sub32_false_res_eq_zero_iff,
    State.setArithFlags_sub32, State.setReg_psw, State.writeLE_psw, State.markLoaded_psw]
  rfl

/-- Settles O44: one read and write back, and the flags of `sub32`. -/
theorem compareAndExchangeCompletes : Obligations.CompareAndExchangeCompletes := by
  intro s reg1 reg2 reg3 hread hwrite w
  refine completes_of_done (exec_caxi reg2 reg3 hread hwrite) ?pc ?control
    ⟨fun r => ?reg, rfl, ?word, fun b hb => ?others⟩
  case pc => simp [State.caxiWritten]
  case control =>
    simpa [SameControl, State.caxiWritten] using
      (s.markLoaded _ 4).writeLE_sameControl (s.reg reg1) (s.caxiStores reg1 reg2 reg3) 4
  case reg => exact (State.reg_setReg _ reg3 w r).trans (by simp [State.caxiWritten])
  case word =>
    rw [← s.wordAt_caxiWritten reg1 reg2 reg3]
    exact State.wordAt_congr (fun b => State.setReg_byteAt _ reg3 w b) _
  case others =>
    exact (State.setReg_byteAt _ reg3 w b).trans (State.byteAt_writeLE_of_le _ _ _ 4 (by decide) b hb)

/-! ### CALLT, SWITCH and CTRET (R365, R387, R368) -/

/-- The five flags are bits 4 to 0 of PSW (R44). -/
theorem Psw.flagsWord_eq (p : Psw) : p.flagsWord = p.toWord &&& 0x1F := by
  apply BitVec.eq_of_getLsbD_eq
  intro i hi
  simp only [Psw.flagsWord, Psw.toWord, BitVec.getLsbD_and, BitVec.getLsbD_append]
  interval_cases i <;> simp

/-- SWITCH, with twice its operands in place of the shifts. -/
theorem exec_switch (reg1 : Reg) (s : State) :
    exec (.switch reg1) s =
      (s.memRead ⟨0, 1, false, 0b10000, false, false, false⟩ s.psw.um (s.pc + 2 + 2 * s.reg reg1) 2).andThen
        fun v s => .next (s.setPc (s.pc + 2 + 2 * signHalf v)) := by
  simp only [← shiftLeft_one_eq_two_mul]
  rfl

/-- Settles O45: the entry is read, then the jump is made. -/
theorem tableCallsAndJumpsComplete : Obligations.TableCallsAndJumpsComplete := by
  refine fun s imm6 reg1 => ⟨fun hread => ?callt, fun hread => ?switch, ?ctret⟩
  case callt =>
    have hexec : exec (.callt imm6) s = execCallt imm6 s := rfl
    rw [execCallt, callt_offset_eq, State.memRead_of_canRead hread] at hexec
    refine ⟨_, hexec, ?pc, ?sys, fun _ => rfl, rfl, fun _ => rfl, rfl, rfl, rfl, rfl, rfl⟩
    case pc => rw [State.setPc_pc, zeroHalf_readLE]; rfl
    case sys => rw [← Psw.flagsWord_eq]; rfl
  case switch =>
    have hexec := exec_switch reg1 s
    rw [State.memRead_of_canRead hread] at hexec
    refine ⟨_, hexec, ?_, fun _ => rfl, rfl, fun _ => rfl, rfl, rfl, rfl, rfl, rfl, rfl⟩
    rw [State.setPc_pc, signHalf_readLE]
    rfl
  case ctret =>
    exact ⟨_, rfl, rfl, rfl, fun _ => rfl, fun _ => rfl, rfl, rfl, rfl, rfl, rfl, rfl⟩

/-! ### SYSCALL (R397) -/

/-- Settles O46: the entry is read in supervisor mode, and gives the handler. -/
theorem systemCallCompletes : Obligations.SystemCallCompletes := by
  intro s v index hread
  have hexec : exec (.syscall v) s = execSyscall v s := rfl
  rw [execSyscall, s.syscallEntry_eq_toNat, State.memRead_of_canRead hread] at hexec
  refine ⟨_, hexec, ⟨rfl, ?psw, ?pc, rfl, fun _ => rfl, fun _ => rfl, rfl, rfl, rfl⟩, rfl⟩
  case psw => rfl
  case pc => rw [State.takeExceptionAt_pc, low_readLE s _ 4 (Nat.le_refl 4)]; rfl

end Sys2Proof.Machine
end

section
/-!
SETTLES O47, O48 and O50 to O52. Software exceptions and returns, interrupt enable and run control, and the instructions
without an effect of their own (spec/47_special.md R367, R369, R376 to R380, R382 to R384, R388, R393 to R399).
-/
namespace Sys2Proof.Machine

open Sys2Proof

/-! ### Software exceptions (R367, R379, R383, R388) -/

/-- The offset of TRAP by its vector (spec/60_exceptions.md R440). -/
theorem trap_offset_eq (v : BitVec 5) : (Exception.trap v).offset = if v.toNat < 16 then 0x040 else 0x050 := by
  revert v
  decide

/-- An exception that leaves PSW.EBV uses the base that was in use before. -/
theorem State.takeException_acknowledged_of_ebv {s : State} {x : Exception} (ret : Word) (hx : ∀ c p, x ≠ .eiint c p)
    (hebv : x.clearsEbv = false) :
    Acknowledged s (s.takeException x ret) ⟨x.feLevel, x.code, x.epAfter, false⟩ s.sys ret
      (s.vector s.psw.ebv x.offset) := by
  have h := s.takeException_acknowledged x ret hx
  rwa [hebv, Bool.not_false, Bool.and_true] at h

/-- Settles O47: the rows of TRAP and FETRAP in the exception table. -/
theorem trapsComplete : Obligations.TrapsComplete := by
  intro s v5 v4
  rw [← trap_offset_eq]
  exact ⟨⟨_, rfl, State.takeException_acknowledged_of_ebv (x := .trap v5) _ (fun _ _ => nofun) rfl, rfl⟩,
    ⟨_, rfl, State.takeException_acknowledged_of_ebv (x := .fetrap v4) _ (fun _ _ => nofun) rfl, rfl⟩⟩

/-- An instruction that raises the reserved instruction exception. -/
theorem raises_of_rie {s : State} {i : Instr} (hexec : exec i s = .next (s.raise .rie)) : Raises i s 0x60 0x060 :=
  ⟨_, hexec, s.raise_acknowledged (x := .rie) s.sys s.freeCtr rfl rfl rfl rfl, rfl⟩

/-- Settles O48. -/
theorem reservedInstructionsRaise : Obligations.ReservedInstructionsRaise :=
  fun _ _ _ => ⟨raises_of_rie rfl, raises_of_rie rfl, raises_of_rie rfl⟩

/-! ### Returns (R377, R378, spec/60_exceptions.md R452) -/

/-- Adding -1 carries into bit `k` exactly where a lower bit is set: subtracting 1 borrows through the low zeros. -/
theorem carry_neg_one_iff (w : Word) {k : Nat} (hk : k ≤ 32) :
    BitVec.carry k w (BitVec.allOnes 32) false = true ↔ ∃ j < k, w.getLsbD j = true := by
  induction k with
  | zero => simp
  | succ k ih =>
    have hone : (BitVec.allOnes 32).getLsbD k = true := by
      rw [BitVec.getLsbD_allOnes, decide_eq_true (by omega)]
    have hcarry : BitVec.carry (k + 1) w (BitVec.allOnes 32) false = true ↔
        w.getLsbD k = true ∨ BitVec.carry k w (BitVec.allOnes 32) false = true := by
      rw [BitVec.carry_succ, hone]
      cases w.getLsbD k <;> cases BitVec.carry k w (BitVec.allOnes 32) false <;> decide
    rw [hcarry, ih (by omega), Nat.exists_lt_succ_right, or_comm]

theorem clearsLowest_clearLowestSet (w : Word) : ClearsLowest w (clearLowestSet w) := by
  intro k
  by_cases hk : k < 32
  · have hsub : w - 1 = w + BitVec.allOnes 32 := BitVec.sub_eq_add_neg w 1
    have hone : (BitVec.allOnes 32).getLsbD k = true := by
      rw [BitVec.getLsbD_allOnes, decide_eq_true hk]
    rw [← carry_neg_one_iff w hk.le, clearLowestSet, hsub, BitVec.getLsbD_and, BitVec.getLsbD_add hk, hone]
    cases w.getLsbD k <;> simp
  · have hge (v : Word) : v.getLsbD k = false := BitVec.getLsbD_of_ge v k (by omega)
    simp [hge]

/-- What the end of a handler leaves: the report is counted, and ISPR gives up its lowest bit (R452). -/
theorem State.endOfHandler_eq (s : State) (ei : Bool) :
    s.endOfHandler ei =
      { s with
        eoi := if s.psw.ep then s.eoi else s.eoi + 1
        sys := { s.sys with
          ispr := if ei = true ∧ s.psw.ep = false ∧ s.sys.intcfg.getLsbD 0 = false then clearLowestSet s.sys.ispr
            else s.sys.ispr } } := by
  unfold State.endOfHandler
  cases hep : s.psw.ep
  case true => simp
  case false =>
    cases ei
    case false => simp
    case true => cases hispc : s.sys.intcfg.getLsbD 0 <;> simp only [hispc] <;> rfl

/-- A return after the end of a handler (R450, R452). -/
theorem State.returned_of_endOfHandler (s : State) (ei : Bool) (pc psw : Word) :
    Returned s ((s.endOfHandler ei).returnTo pc psw) pc psw ei := by
  rw [s.endOfHandler_eq ei]
  refine ⟨rfl, rfl, rfl, ?ispr, rfl, fun _ => rfl, fun _ => rfl, rfl, rfl, rfl, rfl⟩
  by_cases h : ei = true ∧ s.psw.ep = false ∧ s.sys.intcfg.getLsbD 0 = false
  · rw [if_pos h]
    simp only [State.returnTo, State.setPc_sys, if_pos h]
    exact clearsLowest_clearLowestSet s.sys.ispr
  · rw [if_neg h]
    simp only [State.returnTo, State.setPc_sys, if_neg h]

theorem exec_eiret {s : State} (h : s.psw.um = false) : exec .eiret s = .next s.returnEi :=
  if_neg (Bool.eq_false_iff.1 h)

theorem exec_feret {s : State} (h : s.psw.um = false) : exec .feret s = .next s.returnFe :=
  if_neg (Bool.eq_false_iff.1 h)

theorem exec_halt {s : State} (h : s.psw.um = false) : exec .halt s = State.done { s with run := .halted } 4 :=
  if_neg (Bool.eq_false_iff.1 h)

/-- Settles O50: both returns are a return after the end of a handler. -/
theorem returnsComplete : Obligations.ReturnsComplete := fun s hum =>
  ⟨⟨_, exec_eiret hum, s.returned_of_endOfHandler true _ _⟩,
    ⟨_, exec_feret hum, s.returned_of_endOfHandler false _ _⟩⟩

/-! ### Interrupt enable and run control (R369, R376, R380, R384) -/

/-- DI and EI where the mode or MCTL.UIC permits them. -/
theorem State.setId_of_permitted {s : State} (h : s.psw.um = false ∨ s.sys.mctl.getLsbD 0 = true) (id : Bool) :
    s.setId id = State.done { s with psw := { s.psw with id := id } } 4 := by
  rw [State.setId, if_neg]
  obtain h | h := h <;> simp [h]

/-- Settles O51: EI and DI write PSW alone, HALT and SNOOZE the run state alone. -/
theorem interruptEnableAndRunControlComplete : Obligations.InterruptEnableAndRunControlComplete := by
  refine fun s => ⟨fun h => ⟨setsFlags_of_psw (State.setId_of_permitted h false),
    setsFlags_of_psw (State.setId_of_permitted h true)⟩, fun hum => ?halt, ?snooze⟩
  case halt =>
    exact ⟨_, exec_halt hum, rfl, rfl, fun _ => rfl, rfl, fun _ => rfl, rfl, rfl, rfl, rfl, rfl⟩
  case snooze => exact ⟨_, rfl, rfl, rfl, fun _ => rfl, rfl, fun _ => rfl, rfl, rfl, rfl, rfl, rfl⟩

/-! ### No operation (R382, R393 to R396, R398, R399) -/

/-- An instruction that goes on with no more than the list of stale bytes written. -/
theorem idle_of_done {s : State} {i : Instr} {len : Nat} {es : List StaleByte}
    (hexec : exec i s = State.done { s with stale := es } len) :
    Completes i s len fun t => SameRegs s t ∧ t.psw = s.psw ∧ SameMemory s t ∧ t.stale = es :=
  completes_of_done hexec rfl ⟨rfl, rfl, rfl, rfl, rfl, rfl⟩ ⟨fun _ => rfl, rfl, fun _ => rfl, rfl⟩

/-- Settles O52: all but SYNCI leave the list of stale bytes; SYNCI drops those that were read back. -/
theorem noOperationsComplete : Obligations.NoOperationsComplete := by
  refine fun s _ _ _ => ⟨idle_of_done rfl, idle_of_done rfl, idle_of_done rfl, idle_of_done rfl, idle_of_done ?synci,
    idle_of_done rfl, idle_of_done rfl⟩
  have hfilter : (fun e : StaleByte => decide (e.loaded = false)) = fun e => !e.loaded :=
    funext fun e => by cases e.loaded <;> rfl
  rw [hfilter]
  rfl

end Sys2Proof.Machine
end

section
/-!
SETTLES O53 to O56. Block transfers: the register list and the register range, what a block of stores or loads leaves
where its words may be transferred, and where one of them is refused (spec/47_special.md R370 to R375).
-/
namespace Sys2Proof.Machine

open Sys2Proof

/-! ### The register list (R371) -/

theorem mem_listRegs (list12 : BitVec 12) (r : Reg) :
    r ∈ listRegs list12 ↔ ∃ p ∈ listBits, r = p.1 ∧ list12.getLsbD p.2 = true := by
  simp only [listRegs, List.mem_map, List.mem_filter, and_assoc]
  exact exists_congr fun p => and_congr_right fun _ => and_comm.trans (and_congr_left' eq_comm)

theorem pairwise_listRegs (list12 : BitVec 12) : (listRegs list12).Pairwise (· < ·) := by
  have hbits : listBits.Pairwise fun p q => p.1 < q.1 := by decide
  exact List.pairwise_map.2 (hbits.filter _)

theorem nodup_listRegs (list12 : BitVec 12) : (listRegs list12).Nodup :=
  (pairwise_listRegs list12).imp fun h => BitVec.ne_of_lt h

theorem length_listRegs_le (list12 : BitVec 12) : (listRegs list12).length ≤ 32 := by
  have hlength : (listRegs list12).length ≤ 12 := by
    rw [listRegs, List.length_map]
    exact List.length_filter_le _ listBits
  omega

theorem getLsbD_fieldList (h1 h2 : Half) (k : Nat) :
    (fieldList h1 h2).getLsbD k =
      if k < 1 then (h1.extractLsb' 0 1).getLsbD k else (h2.extractLsb' 5 11).getLsbD (k - 1) :=
  BitVec.getLsbD_append

theorem getLsbD_fieldList_zero (h1 h2 : Half) : (fieldList h1 h2).getLsbD 0 = h1.getLsbD 0 := by
  rw [getLsbD_fieldList]
  simp

theorem getLsbD_fieldList_succ (h1 h2 : Half) {k : Nat} (hk : k < 11) :
    (fieldList h1 h2).getLsbD (k + 1) = h2.getLsbD (5 + k) := by
  rw [getLsbD_fieldList, if_neg (by omega), BitVec.getLsbD_extractLsb', Nat.add_sub_cancel, decide_eq_true hk,
    Bool.true_and]

/-- Settles O53: the table of the model names the register of each bit, in ascending order. -/
theorem listTable : Obligations.ListTable := by
  refine fun h1 h2 => ⟨pairwise_listRegs _, fun r => ?_⟩
  simp (disch := decide) only [mem_listRegs, listBits, List.mem_cons, List.not_mem_nil, or_false, exists_eq_or_imp,
    exists_eq_left, getLsbD_fieldList_zero, getLsbD_fieldList_succ, Nat.reduceAdd]
  simp only [or_comm, or_left_comm]

/-! ### The register range (R372, R374) -/

theorem length_rangeRegs_le (rh rt : Reg) : (rangeRegs rh rt).length ≤ 32 := by
  rw [rangeRegs, List.length_map, List.length_range]
  omega

/-- The range in descending order, counted down from its last register. -/
theorem reverse_rangeRegs (rh rt : Reg) :
    (rangeRegs rh rt).reverse = (List.range (rt.toNat + 1 - rh.toNat)).map fun k => rt - BitVec.ofNat 5 k := by
  apply List.ext_getElem (by simp [rangeRegs])
  intro k hk _
  simp only [rangeRegs, List.length_reverse, List.length_map, List.length_range] at hk
  simp only [rangeRegs, List.getElem_reverse, List.length_map, List.length_range, List.getElem_map,
    List.getElem_range]
  bv_omega

theorem nodup_rangeRegs (rh rt : Reg) : (rangeRegs rh rt).Nodup := by
  refine List.nodup_range.map_on fun j hj k hk h => ?_
  rw [List.mem_range] at hj hk
  bv_omega

/-! ### Addresses of the stack (R375 (a)) -/

theorem toNat_stackAddr (v : Word) : (stackAddr v).toNat = v.toNat / 4 * 4 := Area.toNat_lo ⟨v, 0, 0⟩

/-- Rounding down keeps the distance of whole words. -/
theorem stackAddr_sub (v k : Word) : stackAddr (v - 4 * k) = stackAddr v - 4 * k := by
  apply BitVec.eq_of_toNat_eq
  rw [toNat_stackAddr, BitVec.toNat_sub, BitVec.toNat_sub, toNat_stackAddr, BitVec.toNat_mul]
  simp
  omega

theorem misaligned_stackAddr (v : Word) : misaligned (stackAddr v) 4 = false := by
  rw [← Bool.not_eq_true]
  intro h
  refine (extractLsb'_two_ne_zero_iff _).1 h ?_
  rw [toNat_stackAddr, Nat.mul_mod_left]

theorem frameBytes_eq (imm5 : BitVec 5) : frameBytes imm5 = 4 * imm5.setWidth 32 := by
  revert imm5
  decide

/-! ### A block of stores (R373, R374) -/

/-- The address of a word of a block, counted from the word before. -/
theorem sub_four_sub (top : Word) (k : Nat) :
    top - 4 - 4 * BitVec.ofNat 32 k = top - 4 * BitVec.ofNat 32 (k + 1) := by
  bv_omega

theorem stackAddr_sub_four (top : Word) : stackAddr (top - 4) = stackAddr top - 4 := stackAddr_sub top 1

/-- A byte outside a block is outside its first word and outside the others. -/
theorem outside_block {a b : Word} {n : Nat} (hn : n < 32)
    (h : 4 * (n + 1) ≤ (b - (a - 4 * BitVec.ofNat 32 (n + 1))).toNat) :
    4 * n ≤ (b - (a - 4 - 4 * BitVec.ofNat 32 n)).toNat ∧ 4 ≤ (b - (a - 4)).toNat := by
  bv_omega

/-- The bytes of the first word of a block are outside the others. -/
theorem first_outside_rest (a : Word) {n j : Nat} (hn : n < 32) (hj : j < 4) :
    4 * n ≤ (a - 4 + BitVec.ofNat 32 j - (a - 4 - 4 * BitVec.ofNat 32 n)).toNat := by
  bv_omega

section

variable {s t u : State} {top : Word} {r : Reg} {rs : List Reg} {n : Nat}

/-- A word stored just below the top, then a block below it: the later stores do not reach the first word. -/
theorem Pushed.cons (hlen : rs.length < 32) (hregs : SameRegs s u)
    (hfirst : Holds u (stackAddr (top - 4)) ((s.reg r).setWidth 64) 4)
    (hothers : SameMemoryBut s u (stackAddr (top - 4)) 4) (hrest : Pushed u t (top - 4) rs) :
    Pushed s t top (r :: rs) := by
  obtain ⟨hwords, houtside⟩ := hrest
  refine ⟨fun k hk j hj => ?words, fun b hb => ?outside⟩
  case words =>
    cases k with
    | zero =>
      have hout := first_outside_rest (stackAddr top) hlen hj
      rw [← stackAddr_sub_four, ← stackAddr_sub] at hout
      exact (houtside _ hout).trans (hfirst j hj)
    | succ k =>
      have hword := hwords k (Nat.lt_of_succ_lt_succ hk) j hj
      rwa [sub_four_sub, hregs] at hword
  case outside =>
    rw [List.length_cons, stackAddr_sub] at hb
    obtain ⟨hrest, hfirst⟩ := outside_block hlen hb
    rw [← stackAddr_sub_four, ← stackAddr_sub] at hrest
    rw [← stackAddr_sub_four] at hfirst
    exact (houtside b hrest).trans (hothers b hfirst)

/-- What a write is checked against does not depend on memory. -/
theorem canWrite_setMem (s : State) (m : Memory) (es : List StaleByte) (a : Word) :
    CanWrite { s with mem := m, stale := es } a 4 ↔ CanWrite s a 4 := Iff.rfl

theorem CanPush.head (h : CanPush s top (n + 1)) : CanWrite s (stackAddr (top - 4)) 4 :=
  h 0 n.succ_pos

theorem CanPush.tail (h : CanPush s top (n + 1)) (m : Memory) (es : List StaleByte) :
    CanPush { s with mem := m, stale := es } (top - 4) n := fun k hk => by
  rw [sub_four_sub, canWrite_setMem]
  exact h (k + 1) (Nat.succ_lt_succ hk)

/-- Storing a word: it lies at its address, and nothing else differs. -/
theorem State.writeLE_word (s : State) (a : Word) (v : Dword) :
    ∃ m es, s.writeLE a v 4 = { s with mem := m, stale := es } ∧ Holds { s with mem := m, stale := es } a v 4 ∧
      SameMemoryBut s { s with mem := m, stale := es } a 4 := by
  refine ⟨_, _, s.writeLE_frame a v 4, ?_⟩
  rw [← State.writeLE_frame]
  exact ⟨fun k hk => s.byteAt_writeLE_of_lt a v 4 (by decide) k hk,
    fun b hb => s.byteAt_writeLE_of_le a v 4 (by decide) b hb⟩

/-- A block whose first words may be written stores them, and goes on with the others below them. -/
theorem State.storeBlock_append (h : CanPush s top rs.length) (hlen : rs.length ≤ 32) (tag : AccessTag) :
    ∃ m es, Pushed s { s with mem := m, stale := es } top rs ∧ ∀ qs,
      s.storeBlock tag top (rs ++ qs) =
        State.storeBlock { s with mem := m, stale := es } tag (top - 4 * BitVec.ofNat 32 rs.length) qs := by
  induction rs generalizing s top with
  | nil =>
    refine ⟨s.mem, s.stale, ⟨fun k hk => absurd hk k.not_lt_zero, fun _ _ => rfl⟩, fun qs => ?_⟩
    simp
  | cons r rest ih =>
    obtain ⟨m, es, hstored, hfirst, hothers⟩ := s.writeLE_word (stackAddr (top - 4)) ((s.reg r).setWidth 64)
    obtain ⟨m', es', hrest, hblock⟩ := ih (h.tail m es) (Nat.le_of_succ_le hlen)
    refine ⟨m', es', Pushed.cons (u := { s with mem := m, stale := es }) hlen (fun _ => rfl) hfirst hothers hrest,
      fun qs => ?_⟩
    rw [List.cons_append, State.storeBlock, State.memWrite_of_canWrite h.head, Access.bind, hstored,
      hblock, sub_four_sub, List.length_cons]

theorem State.storeBlock_of_canPush (h : CanPush s top rs.length) (hlen : rs.length ≤ 32) (tag : AccessTag) :
    ∃ m es, Pushed s { s with mem := m, stale := es } top rs ∧
      s.storeBlock tag top rs =
        .done (top - 4 * BitVec.ofNat 32 rs.length) { s with mem := m, stale := es } := by
  obtain ⟨m, es, hpushed, hblock⟩ := State.storeBlock_append h hlen tag
  have hall := hblock []
  rw [List.append_nil] at hall
  exact ⟨m, es, hpushed, hall⟩

end

/-! ### A block of loads (R370, R372) -/

theorem add_four_add (bottom : Word) (k : Nat) :
    bottom + 4 + 4 * BitVec.ofNat 32 k = bottom + 4 * BitVec.ofNat 32 (k + 1) := by
  bv_omega

theorem State.setReg_frame (s : State) (r : Reg) (v : Word) : ∃ g, s.setReg r v = { s with gpr := g } := by
  unfold State.setReg
  split
  · exact ⟨s.gpr, rfl⟩
  · exact ⟨_, rfl⟩

theorem State.restoreReg_frame (s : State) (r : Reg) (v : Word) : ∃ g, s.restoreReg r v = { s with gpr := g } := by
  unfold State.restoreReg
  split
  · exact ⟨s.gpr, rfl⟩
  · exact s.setReg_frame r v

/-- The word for r0 and for sp is dropped (R372). -/
theorem State.reg_restoreReg (s : State) (q : Reg) (v : Word) (r : Reg) :
    (s.restoreReg q v).reg r = if r = q ∧ r ≠ 0 ∧ r ≠ 3 then v else s.reg r := by
  unfold State.restoreReg
  by_cases hq : q = sp
  · have hnot : ¬ (r = q ∧ r ≠ 0 ∧ r ≠ 3) := fun ⟨hrq, _, hr3⟩ => hr3 (hrq.trans hq)
    rw [if_pos hq, if_neg hnot]
  · have hiff : r = q ∧ r ≠ 0 ∧ r ≠ 3 ↔ r = q ∧ r ≠ 0 :=
      ⟨fun ⟨hrq, hr0, _⟩ => ⟨hrq, hr0⟩, fun ⟨hrq, hr0⟩ => ⟨hrq, hr0, fun hr3 => hq (hrq.symm.trans hr3)⟩⟩
    rw [if_neg hq, State.reg_setReg, if_congr hiff rfl rfl]

section

variable {s t : State} {bottom : Word} {q r : Reg} {rs : List Reg} {n : Nat}

/-- A register that the block does not load. -/
theorem popped_of_not_mem (h : r ∉ rs) : popped s bottom rs r = s.reg r := by
  induction rs generalizing bottom with
  | nil => rfl
  | cons q rest ih =>
    rw [popped, if_neg fun hc => List.ne_of_not_mem_cons h hc.1, ih (List.not_mem_of_not_mem_cons h)]

theorem popped_congr (hmem : SameMemory s t) (hreg : t.reg r = s.reg r) :
    popped t bottom rs r = popped s bottom rs r := by
  induction rs generalizing bottom with
  | nil => exact hreg
  | cons q rest ih => rw [popped, popped, ih, State.wordAt_congr hmem]

/-- A register loaded, then a block above its word that does not load it again. -/
theorem popped_cons (hq : q ∉ rs) (hmem : SameMemory s t)
    (hreg : ∀ r, t.reg r = if r = q ∧ r ≠ 0 ∧ r ≠ 3 then s.wordAt (stackAddr bottom) else s.reg r) (r : Reg) :
    popped t (bottom + 4) rs r = popped s bottom (q :: rs) r := by
  have h := hreg r
  rw [popped]
  by_cases hr : r = q ∧ r ≠ 0 ∧ r ≠ 3
  · rw [if_pos hr] at h ⊢
    rw [popped_of_not_mem (hr.1 ▸ hq), h]
  · rw [if_neg hr] at h ⊢
    exact popped_congr hmem h

/-- What a read is checked against does not depend on general registers. -/
theorem canRead_setGpr (s : State) (g : Vector Word 32) (es : List StaleByte) (a : Word) :
    CanRead { s with gpr := g, stale := es } s.psw.um a 4 ↔ CanRead s s.psw.um a 4 := Iff.rfl

theorem CanPop.head (h : CanPop s bottom (n + 1)) : CanRead s s.psw.um (stackAddr bottom) 4 := by
  have hfirst := h 0 n.succ_pos
  rwa [BitVec.mul_zero, BitVec.add_zero] at hfirst

theorem CanPop.tail (h : CanPop s bottom (n + 1)) (g : Vector Word 32) (es : List StaleByte) :
    CanPop { s with gpr := g, stale := es } (bottom + 4) n := fun k hk => by
  rw [add_four_add, canRead_setGpr]
  exact h (k + 1) (Nat.succ_lt_succ hk)

/-- A block whose first words may be read loads them, and goes on with the others above them. -/
theorem State.loadBlock_append (h : CanPop s bottom rs.length) (hnodup : rs.Nodup) (tag : AccessTag) :
    ∃ g es, (∀ r, State.reg { s with gpr := g, stale := es } r = popped s bottom rs r) ∧ ∀ qs,
      s.loadBlock tag bottom (rs ++ qs) =
        State.loadBlock { s with gpr := g, stale := es } tag (bottom + 4 * BitVec.ofNat 32 rs.length) qs := by
  induction rs generalizing s bottom with
  | nil =>
    refine ⟨s.gpr, s.stale, fun _ => rfl, fun qs => ?_⟩
    simp
  | cons q rest ih =>
    obtain ⟨hq, hrest⟩ := List.nodup_cons.1 hnodup
    have hreg := (s.markLoaded (stackAddr bottom) 4).reg_restoreReg q (s.wordAt (stackAddr bottom))
    obtain ⟨g, hg⟩ := (s.markLoaded (stackAddr bottom) 4).restoreReg_frame q (s.wordAt (stackAddr bottom))
    rw [hg] at hreg
    obtain ⟨g', es, hpopped, hblock⟩ := ih (h.tail g (s.markLoaded (stackAddr bottom) 4).stale) hrest
    have hcons := popped_cons (s := s) (bottom := bottom)
      (t := { s with gpr := g, stale := (s.markLoaded (stackAddr bottom) 4).stale }) hq
      (fun _ => rfl) hreg
    refine ⟨g', es, fun r => (hpopped r).trans (hcons r), fun qs => ?_⟩
    rw [List.cons_append, State.loadBlock, State.memRead_of_canRead h.head, Access.bind,
      low_readLE s _ 4 (Nat.le_refl 4), hg, List.length_cons, ← add_four_add]
    exact hblock qs

theorem State.loadBlock_of_canPop (h : CanPop s bottom rs.length) (hnodup : rs.Nodup) (tag : AccessTag) :
    ∃ g es, (∀ r, State.reg { s with gpr := g, stale := es } r = popped s bottom rs r) ∧
      s.loadBlock tag bottom rs =
        .done (bottom + 4 * BitVec.ofNat 32 rs.length) { s with gpr := g, stale := es } := by
  obtain ⟨g, es, hreg, hblock⟩ := State.loadBlock_append h hnodup tag
  have hall := hblock []
  rw [List.append_nil] at hall
  exact ⟨g, es, hreg, hall⟩

end

/-! ### PREPARE and PUSHSP (R373, R374) -/

section

variable {s u : State} {i : Instr} {len : Nat} {rs : List Reg} {Q : State → Prop} {v w : Word} {m : Memory}
  {es : List StaleByte}

/-- An instruction that goes on after a block of stores with no more than general registers written. -/
theorem completes_of_pushed {g : Vector Word 32} (hpushed : Pushed s { s with mem := m, stale := es } (s.reg 3) rs)
    (hexec : exec i s = u.done len) (hu : u = { s with gpr := g, mem := m, stale := es }) (hQ : Q (u.advance len)) :
    Completes i s len fun t => (t.psw = s.psw ∧ Pushed s t (s.reg 3) rs) ∧ Q t := by
  subst hu
  exact completes_of_done hexec rfl ⟨rfl, rfl, rfl, rfl, rfl, rfl⟩ ⟨⟨rfl, hpushed⟩, hQ⟩

/-- With sp written after the stores: PUSHSP and the first form of PREPARE. -/
theorem pushes_of_setReg (hpushed : Pushed s { s with mem := m, stale := es } (s.reg 3) rs)
    (hexec : exec i s = (State.setReg { s with mem := m, stale := es } 3 v).done len) :
    Completes i s len fun t => (t.psw = s.psw ∧ Pushed s t (s.reg 3) rs) ∧ RegIs s t 3 v := by
  obtain ⟨g, hg⟩ := State.setReg_frame { s with mem := m, stale := es } 3 v
  exact completes_of_pushed hpushed hexec hg fun r => State.reg_setReg { s with mem := m, stale := es } 3 v r

/-- With sp and ep written after the stores: the second forms of PREPARE. -/
theorem pushes_of_setReg_setReg (hpushed : Pushed s { s with mem := m, stale := es } (s.reg 3) rs)
    (hexec : exec i s = ((State.setReg { s with mem := m, stale := es } 3 v).setReg 30 w).done len) :
    Completes i s len fun t => (t.psw = s.psw ∧ Pushed s t (s.reg 3) rs) ∧ RegsAre s t 3 v 30 w := by
  obtain ⟨g, hg⟩ := State.setReg_frame { s with mem := m, stale := es } 3 v
  obtain ⟨g', hg'⟩ := (State.setReg { s with mem := m, stale := es } 3 v).setReg_frame 30 w
  refine completes_of_pushed hpushed hexec (hg'.trans (by rw [hg])) ?_
  exact State.setReg_setReg_regsAre { s with mem := m, stale := es } 3 30 v w

/-- PREPARE but for ep: the stores, then sp. -/
theorem State.prepareFrame_of_canPush {list12 : BitVec 12} (h : CanPush s (s.reg 3) (listRegs list12).length)
    (imm5 : BitVec 5) :
    ∃ m es, Pushed s { s with mem := m, stale := es } (s.reg 3) (listRegs list12) ∧
      s.prepareFrame imm5 list12 =
        .done () (State.setReg { s with mem := m, stale := es } 3
          (s.reg 3 - 4 * BitVec.ofNat 32 (listRegs list12).length - 4 * imm5.setWidth 32)) := by
  obtain ⟨m, es, hpushed, hblock⟩ := State.storeBlock_of_canPush h (length_listRegs_le list12) (frameTag true)
  refine ⟨m, es, hpushed, ?_⟩
  rw [← frameBytes_eq]
  exact congrArg (Access.bind · fun v t => .done () (t.setReg sp (v - frameBytes imm5))) hblock

end

/-- Settles O54: the stores, then sp and ep. -/
theorem pushesComplete : Obligations.PushesComplete := by
  refine fun s imm5 list12 imm16 imm32 rh rt => ⟨fun h => ?prepare, fun h => ?pushsp⟩
  case prepare =>
    obtain ⟨m, es, hpushed, hframe⟩ := State.prepareFrame_of_canPush h imm5
    have hexec {k : Unit → State → Result} := congrArg (Access.andThen · k) hframe
    refine ⟨pushes_of_setReg hpushed hexec, pushes_of_setReg_setReg hpushed (hexec.trans ?sp),
      pushes_of_setReg_setReg hpushed hexec, pushes_of_setReg_setReg hpushed (hexec.trans ?hi),
      pushes_of_setReg_setReg hpushed hexec⟩
    case sp =>
      rw [Access.andThen, sp, State.reg_setReg, if_pos (by decide)]
      rfl
    case hi =>
      rw [← half_append_zero_eq_mul]
      rfl
  case pushsp =>
    obtain ⟨m, es, hpushed, hblock⟩ := State.storeBlock_of_canPush h (length_rangeRegs_le rh rt) (stackTag true)
    exact pushes_of_setReg hpushed (congrArg (Access.andThen · fun v t => (t.setReg sp v).done 4) hblock)

/-! ### DISPOSE and POPSP (R370, R372) -/

theorem State.disposeFrame_eq (s : State) (imm5 : BitVec 5) (list12 : BitVec 12) :
    s.disposeFrame imm5 list12 =
      s.loadBlock (frameTag false) (s.reg 3 + 4 * imm5.setWidth 32) (listRegs list12).reverse := by
  rw [← frameBytes_eq]
  rfl

theorem exec_dispose (s : State) (imm5 : BitVec 5) (list12 : BitVec 12) :
    exec (.dispose imm5 list12) s =
      (s.loadBlock (frameTag false) (s.reg 3 + 4 * imm5.setWidth 32) (listRegs list12).reverse).andThen
        fun v t => (t.setReg 3 v).done 4 := by
  rw [← s.disposeFrame_eq imm5]
  rfl

theorem exec_disposeJmp (s : State) (imm5 : BitVec 5) (list12 : BitVec 12) (reg1 : Reg) :
    exec (.disposeJmp imm5 list12 reg1) s =
      (s.loadBlock (frameTag false) (s.reg 3 + 4 * imm5.setWidth 32) (listRegs list12).reverse).andThen
        fun v t => .next ((t.setReg 3 v).setPc (t.reg reg1)) := by
  rw [← s.disposeFrame_eq imm5]
  rfl

theorem exec_popsp (s : State) (rh rt : Reg) :
    exec (.popsp rh rt) s =
      (s.loadBlock (stackTag false) (s.reg 3)
        ((List.range (rt.toNat + 1 - rh.toNat)).map fun k => rt - BitVec.ofNat 5 k)).andThen
        fun v t => (t.setReg 3 v).done 4 := by
  rw [← reverse_rangeRegs]
  rfl

section

variable {s t : State} {i : Instr} {len : Nat} {bottom : Word} {rs : List Reg}

/-- The registers once sp was written after the loads. -/
theorem State.reg_setReg_sp (hreg : ∀ r, t.reg r = popped s bottom rs r) (v : Word) (r : Reg) :
    (t.setReg 3 v).reg r = if r = 3 then v else popped s bottom rs r := by
  have hiff : r = 3 ∧ r ≠ 0 ↔ r = 3 := and_iff_left_of_imp fun hr => by
    rw [hr]
    decide
  rw [State.reg_setReg, if_congr hiff rfl rfl, hreg]

/-- DISPOSE and POPSP: the loads, then sp. -/
theorem completes_of_loadBlock {tag : AccessTag} (hnodup : rs.Nodup)
    (hexec : exec i s = (s.loadBlock tag bottom rs).andThen fun v t => (t.setReg 3 v).done len)
    (h : CanPop s bottom rs.length) :
    Completes i s len fun t =>
      (∀ r, t.reg r = if r = 3 then bottom + 4 * BitVec.ofNat 32 rs.length else popped s bottom rs r) ∧
        t.psw = s.psw ∧ SameMemory s t := by
  obtain ⟨g, es, hreg, hblock⟩ := State.loadBlock_of_canPop h hnodup tag
  rw [hblock] at hexec
  refine completes_of_done hexec (State.setReg_pc _ _ _) (State.setReg_sameControl _ _ _)
    ⟨State.reg_setReg_sp hreg _, State.setReg_psw _ _ _, State.setReg_byteAt _ _ _⟩

end

/-- Settles O55: the loads, then the jump target is read and sp is written. -/
theorem popsComplete : Obligations.PopsComplete := by
  refine fun s imm5 list12 reg1 rh rt => ⟨fun h => ⟨?dispose, ?jump⟩, fun h => ?popsp⟩
  case dispose =>
    exact completes_of_loadBlock (List.nodup_reverse.2 (nodup_listRegs list12)) (exec_dispose s imm5 list12) h
  case jump =>
    obtain ⟨g, es, hreg, hblock⟩ :=
      State.loadBlock_of_canPop h (List.nodup_reverse.2 (nodup_listRegs list12)) (frameTag false)
    have hexec := exec_disposeJmp s imm5 list12 reg1
    rw [hblock] at hexec
    exact ⟨_, hexec, congrArg Word.even (hreg reg1), State.setReg_sameControl _ _ _, State.reg_setReg_sp hreg _,
      State.setReg_psw _ _ _, State.setReg_byteAt _ _ _⟩
  case popsp =>
    refine completes_of_loadBlock ?_ (exec_popsp s rh rt) h
    rw [← reverse_rangeRegs]
    exact List.nodup_reverse.2 (nodup_rangeRegs rh rt)

/-! ### A word that is refused (R375 (c), spec/20_memory.md R123, R124) -/

theorem Access.bind_andThen {α β : Type} (x : Access α) (f : α → State → Access β) (k : β → State → Result) :
    (x.bind f).andThen k = x.andThen fun v s => (f v s).andThen k := by
  cases x <;> rfl

/-- The tag says the row of a block transfer in Table 3-21, with the BL bit. -/
structure IsBlockTag (tag : AccessTag) (itype : BitVec 5) (write : Bool) : Prop where
  mei : tag.mei = meiWord 0 2 true itype write
  block : tag.block = true
  rmw : tag.rmw = false

theorem isBlockTag_frameTag (write : Bool) : IsBlockTag (frameTag write) 12 write := ⟨rfl, rfl, rfl⟩

theorem isBlockTag_stackTag (write : Bool) : IsBlockTag (stackTag write) 13 write := ⟨rfl, rfl, rfl⟩

section

variable {s : State} {i : Instr} {tag : AccessTag} {itype : BitVec 5} {write : Bool} {top bottom : Word} {r : Reg}
  {rs : List Reg} {n : Nat}

/-- The cause code of a refused word of a block. -/
theorem IsBlockTag.code_mdp (h : IsBlockTag tag itype write) (um : Bool) :
    (Exception.mdp (mdpDetail tag um false (!write) write)).code =
      0x00800091#32 ||| (if um then (if write then 0x00020000 else 0x00010000)
        else (if write then 0x00100000 else 0x00080000)) := by
  obtain ⟨-, hblock, hrmw⟩ := h
  unfold mdpDetail Exception.code
  rw [hblock, hrmw]
  revert um write
  decide

/-- MDP for a word of a block, the earlier words having changed general registers or memory alone. -/
theorem blockRefused_of_raiseMdp (h : IsBlockTag tag itype write) (g : Vector Word 32) (m : Memory)
    (es : List StaleByte) (v : Word) :
    BlockRefused s
      (({ s with gpr := g, mem := m, stale := es } : State).raiseMdp tag s.psw.um (stackAddr v) 4 (!write) write)
      (stackAddr v) itype write := by
  obtain ⟨hsys, hpsw, hpc, hrun, -, -, hareas, hproduct, heoi⟩ :=
    State.raiseMdp_acknowledged { s with gpr := g, mem := m, stale := es } tag s.psw.um (stackAddr v) 4 (!write) write
  rw [misaligned_stackAddr, h.code_mdp, h.mei] at hsys
  refine ⟨hsys, hpsw.trans ?_, hpc, hrun, hareas, rfl, hproduct, heoi⟩
  simp [feEntry]

theorem State.storeBlock_refused (h : s.mpuAllowsAll s.psw.um .write (stackAddr (top - 4)) 4 = false)
    (rest : List Reg) :
    s.storeBlock tag top (r :: rest) =
      .raised (s.raiseMdp tag s.psw.um (stackAddr (top - 4)) 4 false true) := by
  have hcheck := State.checkAccess_mdp (t := tag) (um := s.psw.um) (rd := false) (wr := true)
    (s.maeApplies_stackAddr (top - 4)) (by rw [h]; rfl)
  rw [h] at hcheck
  rw [State.storeBlock, State.memWrite_of_check hcheck]
  rfl

theorem State.loadBlock_refused (h : s.mpuAllowsAll s.psw.um .read (stackAddr bottom) 4 = false) (rest : List Reg) :
    s.loadBlock tag bottom (r :: rest) =
      .raised (s.raiseMdp tag s.psw.um (stackAddr bottom) 4 true false) := by
  have hcheck := State.checkAccess_mdp (t := tag) (um := s.psw.um) (rd := true) (wr := false)
    (s.maeApplies_stackAddr bottom) (by rw [h]; rfl)
  rw [h] at hcheck
  rw [State.loadBlock, State.memRead_of_check hcheck]
  rfl

/-- A block of stores whose first `n` words may be written and the next one not. -/
theorem pushStops_of_storeBlock {k : Word → State → Result} (htag : IsBlockTag tag itype true)
    (hexec : exec i s = (s.storeBlock tag (s.reg 3) rs).andThen k) (hlen : rs.length ≤ 32) (hn : n < rs.length)
    (hcan : CanPush s (s.reg 3) n)
    (hrefused : s.mpuAllowsAll s.psw.um .write (stackAddr (s.reg 3 - 4 * BitVec.ofNat 32 (n + 1))) 4 = false) :
    ∃ t, exec i s = .next t ∧
      BlockRefused s t (stackAddr (s.reg 3 - 4 * BitVec.ofNat 32 (n + 1))) itype true ∧ SameRegs s t ∧
        Pushed s t (s.reg 3) (rs.take n) := by
  have htake : (rs.take n).length = n := List.length_take_of_le hn.le
  have hnext : s.reg 3 - 4 * BitVec.ofNat 32 n - 4 = s.reg 3 - 4 * BitVec.ofNat 32 (n + 1) := by
    rw [← sub_four_sub, sub_right_comm]
  obtain ⟨m, es, hpushed, hblock⟩ :=
    State.storeBlock_append (rs := rs.take n) (htake.symm ▸ hcan) (htake.trans_le (hn.le.trans hlen)) tag
  have hall := hblock (rs.drop n)
  rw [List.take_append_drop, htake, List.drop_eq_getElem_cons hn,
    State.storeBlock_refused (s := { s with mem := m, stale := es }) (hnext ▸ hrefused), hnext] at hall
  rw [hall] at hexec
  exact ⟨_, hexec, blockRefused_of_raiseMdp htag s.gpr m es _, fun _ => rfl, hpushed⟩

/-- A block of loads whose first `n` words may be read and the next one not. -/
theorem popStops_of_loadBlock {k : Word → State → Result} (htag : IsBlockTag tag itype false)
    (hexec : exec i s = (s.loadBlock tag bottom rs).andThen k) (hnodup : rs.Nodup) (hn : n < rs.length)
    (hcan : CanPop s bottom n)
    (hrefused : s.mpuAllowsAll s.psw.um .read (stackAddr (bottom + 4 * BitVec.ofNat 32 n)) 4 = false) :
    ∃ t, exec i s = .next t ∧ BlockRefused s t (stackAddr (bottom + 4 * BitVec.ofNat 32 n)) itype false ∧
      SameMemory s t ∧ ∀ r, t.reg r = popped s bottom (rs.take n) r := by
  have htake : (rs.take n).length = n := List.length_take_of_le hn.le
  obtain ⟨g, es, hreg, hblock⟩ :=
    State.loadBlock_append (rs := rs.take n) (htake.symm ▸ hcan) (hnodup.sublist (List.take_sublist n rs)) tag
  have hall := hblock (rs.drop n)
  rw [List.take_append_drop, htake, List.drop_eq_getElem_cons hn,
    State.loadBlock_refused (s := { s with gpr := g, stale := es }) hrefused] at hall
  rw [hall] at hexec
  exact ⟨_, hexec, blockRefused_of_raiseMdp htag g s.mem es _, fun _ => rfl, hreg⟩

end

/-- Settles O56: the words before the refused one were transferred, and nothing after it is done. -/
theorem blockTransfersStopMidway : Obligations.BlockTransfersStopMidway := by
  intro s imm5 list12 imm16 imm32 reg1 rh rt n pushes pops
  have hlist := List.nodup_reverse.2 (nodup_listRegs list12)
  have hrange := reverse_rangeRegs rh rt ▸ List.nodup_reverse.2 (nodup_rangeRegs rh rt)
  have hprepare {i : Instr} {k : Unit → State → Result}
      (hexec : exec i s = (s.prepareFrame imm5 list12).andThen k) : pushes i (listRegs list12) 12 :=
    pushStops_of_storeBlock (isBlockTag_frameTag true) (hexec.trans (Access.bind_andThen _ _ _))
      (length_listRegs_le list12)
  exact ⟨hprepare rfl, hprepare rfl, hprepare rfl, hprepare rfl, hprepare rfl,
    pushStops_of_storeBlock (isBlockTag_stackTag true) rfl (length_rangeRegs_le rh rt),
    popStops_of_loadBlock (isBlockTag_frameTag false) (exec_dispose s imm5 list12) hlist,
    popStops_of_loadBlock (isBlockTag_frameTag false) (exec_disposeJmp s imm5 list12 reg1) hlist,
    popStops_of_loadBlock (isBlockTag_stackTag false) (exec_popsp s rh rt) hrange⟩

end Sys2Proof.Machine
end

section
/-!
SETTLES O57 and O58. STSR reads the register of its number, LDSR writes the R/W bits of it and of no other
(spec/47_special.md R385, R386; spec/10_state.md R30 to R82).
-/
namespace Sys2Proof.Machine

open Sys2Proof

/-! ### Which register a number names (R31, R33, R34) -/

theorem State.sysRegAt_eq_some {s : State} {regID selID : BitVec 5} {r : SysReg} :
    s.sysRegAt regID selID = some r ↔ sysRegOf regID selID = some r ∧ Product.hasSysReg s.product r = true :=
  Option.filter_eq_some_iff

/-- A register that the mode may access takes no exception. -/
theorem needsSupervisor_of_permitted {um : Bool} {r : SysReg} (h : um = false ∨ r.userAccess = true) :
    (um && needsSupervisor (some r)) = false := by
  obtain h | h := h <;> simp [needsSupervisor, h]

/-- Registers 4k, 4k + 1 and 4k + 2 of groups 6 and 7 are those of area k and of area 8 + k (R82). -/
theorem sysRegOf_area (g : BitVec 1) (k : BitVec 3) :
    sysRegOf (k ++ 0#2) (6 + g.setWidth 5) = some (.area .mpla (g ++ k)) ∧
      sysRegOf (k ++ 1#2) (6 + g.setWidth 5) = some (.area .mpua (g ++ k)) ∧
      sysRegOf (k ++ 2#2) (6 + g.setWidth 5) = some (.area .mpat (g ++ k)) := by
  revert g k
  decide

/-- The numbers that R35 prohibits name no register. -/
theorem sysRegOf_of_writeProhibited {regID selID : BitVec 5} (h : writeProhibited regID selID = true) :
    sysRegOf regID selID = none := by
  have hmem := List.contains_iff_mem.1 h
  simp only [List.mem_cons, List.not_mem_nil, or_false, Prod.mk.injEq] at hmem
  obtain ⟨rfl, rfl⟩ | ⟨rfl, rfl⟩ | ⟨rfl, rfl⟩ | ⟨rfl, rfl⟩ | ⟨rfl, rfl⟩ | ⟨rfl, rfl⟩ | ⟨rfl, rfl⟩ := hmem <;> rfl

theorem writeProhibited_of_sysRegAt {s : State} {regID selID : BitVec 5} {r : SysReg}
    (h : s.sysRegAt regID selID = some r) : writeProhibited regID selID = false := by
  rw [← Bool.not_eq_true]
  intro hp
  have hnone := sysRegOf_of_writeProhibited hp
  rw [(State.sysRegAt_eq_some.1 h).1] at hnone
  cases hnone

/-! ### STSR (R386) -/

section

variable {s : State} {regID selID : BitVec 5} {r : SysReg}

theorem reads_of_sysRegAt (hmode : s.psw.um = false ∨ r.userAccess = true) (hr : s.sysRegAt regID selID = some r) :
    Reads s regID selID (s.readSys r) := by
  intro reg2
  have hexec : exec (.stsr regID reg2 selID) s = execStsr regID reg2 selID s := rfl
  simp only [execStsr, hr, needsSupervisor_of_permitted hmode, Bool.false_eq_true, if_false] at hexec
  exact computes_of_setReg hexec

/-- STSR of a number without an accessible register: a free value (U2). -/
theorem computes_of_sysRegAt_none (hum : s.psw.um = false) (hr : s.sysRegAt regID selID = none) (reg2 : Reg) :
    Computes (.stsr regID reg2 selID) s 4 reg2 (s.freeWord 0) s.psw := by
  have hexec : exec (.stsr regID reg2 selID) s = execStsr regID reg2 selID s := rfl
  simp only [execStsr, hr, hum, Bool.false_and, Bool.false_eq_true, if_false] at hexec
  exact completes_of_done hexec (s.setReg_pc reg2 _) (s.setReg_sameControl reg2 _)
    ⟨s.reg_setReg reg2 _, s.setReg_psw reg2 _, s.setReg_byteAt reg2 _⟩

end

/-- ICSR.PMEI tells of a request that stands and that PMR masks (R72). -/
theorem State.maskedRequest_iff (s : State) :
    s.maskedRequest = true ↔ ∃ r, EiintStands s r ∧ s.sys.pmr.getLsbD r.priority.toNat = true := by
  simp only [State.maskedRequest, List.any_eq_true, State.mem_eiintRequests]

/-- Bit `i` of the enable bits whose first is bit `k`. -/
theorem getLsbD_enableBits (as : List Area) (k i : Nat) :
    (enableBits as k).getLsbD i = true ↔
      i < 32 ∧ k ≤ i ∧ ∃ a, as[i - k]? = some a ∧ a.mpat.getLsbD 7 = true := by
  induction as generalizing k with
  | nil => simp [enableBits]
  | cons a rest ih =>
    rw [enableBits, BitVec.getLsbD_or, Bool.or_eq_true, ih, BitVec.getLsbD_shiftLeft, BitVec.getLsbD_setWidth]
    obtain hlt | rfl | hgt := Nat.lt_trichotomy i k
    · simp [hlt, Nat.not_le.2 hlt, Nat.not_le.2 (Nat.lt_succ_of_lt hlt)]
    · simp
    · obtain ⟨j, rfl⟩ := Nat.exists_eq_add_of_lt hgt
      have hrest : k + j + 1 - (k + 1) = j := by omega
      have hcons : k + j + 1 - k = j + 1 := by omega
      simp [hrest, hcons]
      omega

theorem State.getElem?_areasInUse (s : State) (i : Nat) (m : Area) :
    s.areasInUse[i]? = some m ↔ ∃ n : BitVec 4, n.toNat = i ∧ n ≤ s.product.lastArea ∧ s.area n = m := by
  simp only [State.areasInUse, State.area, BitVec.le_def, List.getElem?_take, Vector.getElem?_toList]
  constructor
  · intro h
    split at h
    case isFalse => cases h
    case isTrue hi =>
      obtain ⟨hlt, rfl⟩ := Vector.getElem?_eq_some_iff.1 h
      have hn : (BitVec.ofNat 4 i).toNat = i := by
        rw [BitVec.toNat_ofNat]
        omega
      exact ⟨BitVec.ofNat 4 i, hn, by omega, by simp only [hn]⟩
  · rintro ⟨n, rfl, hn, rfl⟩
    rw [if_pos (Nat.lt_succ_of_le hn)]
    exact Vector.getElem?_eq_getElem n.isLt

/-- MPRC: bit `k` is the enable bit of area `k` where the product has it (R75). -/
theorem State.getLsbD_readSys_mprc (s : State) (k : Nat) :
    (s.readSys .mprc).getLsbD k = true ↔
      ∃ n : BitVec 4, n.toNat = k ∧ n ≤ s.product.lastArea ∧ (s.area n).mpat.getLsbD 7 = true := by
  rw [State.readSys, getLsbD_enableBits]
  simp only [Nat.sub_zero, State.getElem?_areasInUse, Nat.zero_le, true_and]
  constructor
  · rintro ⟨_, _, ⟨n, hk, hn, rfl⟩, hbit⟩
    exact ⟨n, hk, hn, hbit⟩
  · rintro ⟨n, rfl, hn, hbit⟩
    exact ⟨by omega, _, ⟨n, rfl, hn, rfl⟩, hbit⟩

/-- HTCFG0 with PEID at bits 18 to 16 (R58). -/
theorem htcfg0_eq (peid : BitVec 3) : (0#13 ++ peid ++ 0x8000#16 : Word) = peid.setWidth 32 <<< 16 ||| 0x8000 := by
  revert peid
  decide

/-- Settles O57: each number of the table names its register, and each register holds its value. -/
theorem systemRegisterReads : Obligations.SystemRegisterReads := by
  intro s
  have user {regID selID : BitVec 5} (r : SysReg) (hr : s.sysRegAt regID selID = some r)
      (huser : r.userAccess = true) : Reads s regID selID (s.readSys r) := reads_of_sysRegAt (.inr huser) hr
  refine ⟨⟨user .psw rfl rfl, user .ctpc rfl rfl, user .ctpsw rfl rfl, user .ctbp rfl rfl⟩, fun hum => ?_⟩
  have sv {regID selID : BitVec 5} (r : SysReg) (hr : s.sysRegAt regID selID = some r) :
      Reads s regID selID (s.readSys r) := reads_of_sysRegAt (.inl hum) hr
  refine ⟨?group0, ?group1, ?group2, ?icsr, fun hmpu => ?mpu,
    fun regID reg2 selID hnone => ⟨_, computes_of_sysRegAt_none hum hnone reg2⟩⟩
  case group0 =>
    exact ⟨sv .eipc rfl, sv .eipsw rfl, sv .fepc rfl, sv .fepsw rfl, sv .eiic rfl, sv .feic rfl, sv .eiwr rfl,
      sv .fewr rfl, sv .bsel rfl⟩
  case group1 =>
    exact ⟨sv .mcfg0 rfl, sv .rbase rfl, sv .ebase rfl, sv .intbp rfl, sv .mctl rfl, sv .pid rfl, sv .sccfg rfl,
      sv .scbp rfl⟩
  case group2 =>
    rw [← htcfg0_eq]
    exact ⟨sv .htcfg0 rfl, sv .mea rfl, sv .asid rfl, sv .mei rfl, sv .ispr rfl, sv .pmr rfl, sv .intcfg rfl⟩
  case icsr => exact ⟨s.maskedRequest, s.maskedRequest_iff, sv .icsr rfl⟩
  case mpu =>
    have mpu {regID selID : BitVec 5} (r : SysReg) (hr : sysRegOf regID selID = some r)
        (hhas : Product.hasSysReg s.product r = s.product.hasMpu) : Reads s regID selID (s.readSys r) :=
      sv r (State.sysRegAt_eq_some.2 ⟨hr, hhas.trans hmpu⟩)
    refine ⟨mpu .mpm rfl rfl, mpu .mpbrgn rfl rfl, mpu .mptrgn rfl rfl, mpu .mcr rfl rfl,
      ⟨_, s.getLsbD_readSys_mprc, mpu .mprc rfl rfl⟩, fun g k hn => ?area⟩
    have harea (j : AreaReg) : Product.hasSysReg s.product (.area j (g ++ k)) = s.product.hasMpu := by
      simp [Product.hasSysReg, hn]
    obtain ⟨hmpla, hmpua, hmpat⟩ := sysRegOf_area g k
    exact ⟨mpu _ hmpla (harea .mpla), mpu _ hmpua (harea .mpua), mpu _ hmpat (harea .mpat)⟩

/-! ### What LDSR writes of its register (R36) -/

theorem mixBits_zero (old new : Word) : mixBits 0 old new = old := by
  have hmask : ~~~(0 : Word) = BitVec.allOnes 32 := rfl
  rw [mixBits, hmask, BitVec.and_allOnes]
  simp

theorem mixBits_allOnes (old new : Word) : mixBits 0xFFFFFFFF old new = new := by
  have hmask : (0xFFFFFFFF : Word) = BitVec.allOnes 32 := rfl
  rw [mixBits, hmask, BitVec.not_allOnes, BitVec.and_zero, BitVec.zero_or, BitVec.and_allOnes]

/-- PSW in supervisor mode: all but Debug (R45). -/
theorem Psw.toWord_loadWord (p : Psw) (v : Word) : (p.loadWord v).toWord = mixBits 0x400080FF p.toWord v := by
  apply BitVec.eq_of_getLsbD_eq
  intro i hi
  simp only [Psw.toWord, Psw.loadWord, Psw.loadFlags, getLsbD_mixBits, BitVec.getLsbD_append]
  interval_cases i <;> simp

/-- PSW in user mode: the five flags (R45). -/
theorem Psw.toWord_loadFlags (p : Psw) (v : Word) : (p.loadFlags v).toWord = mixBits 0x0000001F p.toWord v := by
  apply BitVec.eq_of_getLsbD_eq
  intro i hi
  simp only [Psw.toWord, Psw.loadFlags, getLsbD_mixBits, BitVec.getLsbD_append]
  interval_cases i <;> simp

/-- The R/W bits of MCFG0: as many low bits of SPID as the product has (R68). -/
theorem Product.mcfg0Mask_eq (p : Product) :
    Product.mcfg0Mask p = (2#32 ^ (p.spidWidth.val + 1) - 1) <<< 16 := by
  unfold Product.mcfg0Mask
  generalize p.spidWidth = w
  revert w
  decide

theorem Area.get_put (a : Area) (k j : AreaReg) (v : Word) : (a.put k v).get j = if j = k then v else a.get j := by
  cases k <;> cases j <;> rfl

/-- A register of an area after a write to one (R79 to R81). -/
theorem State.readSys_putArea (s : State) (k j : AreaReg) (n m : BitVec 4) (v : Word) :
    (s.setArea n ((s.area n).put k v)).readSys (.area j m) =
      if SysReg.area j m = .area k n then v else s.readSys (.area j m) := by
  change ((s.setArea n ((s.area n).put k v)).area m).get j = if _ then v else (s.area m).get j
  rw [State.area_setArea]
  by_cases hn : n = m
  · subst hn
    simp [Area.get_put]
  · have hne : ¬ SysReg.area j m = .area k n := fun h => hn (SysReg.area.inj h).2.symm
    rw [if_neg hn, if_neg hne]

section

variable {s : State} {r q : SysReg}

/-- The register written takes the new word on its R/W bits. -/
theorem State.readSys_writeSys (v : Word) (hr : r ≠ .mprc) :
    (s.writeSys r v).readSys r = mixBits (s.writable r) (s.readSys r) v := by
  cases r with
  | eipc | fepc | eiic | feic | ctpc | eiwr | fewr | mea => exact (mixBits_allOnes _ v).symm
  | bsel | rbase | pid | htcfg0 | icsr | mpbrgn | mptrgn | mcr => exact (mixBits_zero _ v).symm
  | eipsw | fepsw | ctpsw | ctbp | ebase | intbp | mctl | sccfg | scbp | asid | mei | pmr | intcfg | mpm => rfl
  | mprc => exact absurd rfl hr
  | mcfg0 =>
    rw [State.writable, ← Product.mcfg0Mask_eq]
    rfl
  | psw =>
    cases hum : s.psw.um <;> simp only [State.writeSys, State.writePsw, State.readSys, State.writable, hum]
    · exact s.psw.toWord_loadWord v
    · exact s.psw.toWord_loadFlags v
  | ispr =>
    simp only [State.writeSys, State.writable]
    split
    · rfl
    · exact (mixBits_zero _ v).symm
  | area k n =>
    rw [State.writeSys, State.readSys_putArea, if_pos rfl]
    cases k <;> rfl

/-- Every other register reads as before; MPRC is a copy of bits of the areas, and ICSR a function of PMR. -/
theorem State.readSys_writeSys_of_ne (v : Word) (hr : r ≠ .mprc) (hne : q ≠ r) (hmprc : q ≠ .mprc)
    (hicsr : q ≠ .icsr) : (s.writeSys r v).readSys q = s.readSys q := by
  cases r with
  | mprc => exact absurd rfl hr
  | bsel | rbase | pid | htcfg0 | icsr | mpbrgn | mptrgn | mcr => rfl
  | ispr =>
    simp only [State.writeSys]
    split
    · cases q <;> first | rfl | exact absurd rfl hne
    · rfl
  | area k n =>
    cases q with
    | area j m => exact (s.readSys_putArea k j n m _).trans (if_neg hne)
    | mprc => exact absurd rfl hmprc
    | _ => rfl
  | _ => cases q <;> first | rfl | exact absurd rfl hne | exact absurd rfl hicsr

/-- A write to a system register leaves general registers, memory, the PC and the model's bookkeeping. -/
theorem State.writeSys_frame (s : State) (r : SysReg) (v : Word) :
    ∃ y p a, s.writeSys r v = { s with sys := y, psw := p, areas := a } := by
  cases r with
  | ispr =>
    simp only [State.writeSys]
    split
    · exact ⟨_, _, _, rfl⟩
    · exact ⟨_, _, _, rfl⟩
  | _ => exact ⟨_, _, _, rfl⟩

end

/-! ### LDSR (R385) -/

section

variable {s : State} {regID selID : BitVec 5}

/-- LDSR to a register that the mode may access. -/
theorem exec_ldsr_of_permitted {r : SysReg} (reg2 : Reg) (hmode : s.psw.um = false ∨ r.userAccess = true)
    (hr : s.sysRegAt regID selID = some r) :
    exec (.ldsr reg2 regID selID) s = .next ((s.writeSys r (s.reg reg2)).advance 4) := by
  change execLdsr reg2 regID selID s = _
  simp only [execLdsr, hr, needsSupervisor_of_permitted hmode, writeProhibited_of_sysRegAt hr, Bool.false_eq_true,
    if_false]
  rfl

/-- LDSR in supervisor mode to a number that names no register and is not prohibited. -/
theorem exec_ldsr_of_none (reg2 : Reg) (hum : s.psw.um = false) (hr : s.sysRegAt regID selID = none)
    (hp : writeProhibited regID selID = false) : exec (.ldsr reg2 regID selID) s = s.done 4 := by
  change execLdsr reg2 regID selID s = _
  simp only [execLdsr, hr, hum, hp, Bool.false_and, Bool.false_eq_true, if_false]

end

theorem SysReg.userAccess_of_mem {r : SysReg} (h : r = .psw ∨ r = .ctpc ∨ r = .ctpsw ∨ r = .ctbp) :
    r.userAccess = true := by
  obtain rfl | rfl | rfl | rfl := h <;> rfl

/-- Settles O58: the register takes its R/W bits, the others and the rest of the state are as before. -/
theorem systemRegisterWrites : Obligations.SystemRegisterWrites := by
  refine fun s reg2 regID selID => ⟨fun r hr hmprc hmode => ?written, fun hum hnone hlist => ?ignored⟩
  case written =>
    refine ⟨_, exec_ldsr_of_permitted reg2 (hmode.imp_right SysReg.userAccess_of_mem) hr, ?pc, ?register,
      fun q hne hq hicsr => ?others, ?frame⟩
    case register => exact State.readSys_writeSys _ hmprc
    case others => exact State.readSys_writeSys_of_ne _ hmprc hne hq hicsr
    all_goals
      obtain ⟨y, p, a, hframe⟩ := s.writeSys_frame r (s.reg reg2)
      rw [hframe]
    case pc => rfl
    case frame => exact ⟨fun _ => rfl, fun _ => rfl, rfl, rfl, rfl, rfl⟩
  case ignored =>
    have hp : writeProhibited regID selID = false :=
      Bool.eq_false_iff.2 fun h => hlist (List.contains_iff_mem.1 h)
    exact setsFlags_of_psw (exec_ldsr_of_none reg2 hum hnone hp)

end Sys2Proof.Machine
end


section
/-!
SETTLES O6, O7, O10 to O14. The step between two instructions: the reset input, the release of HALT and SNOOZE, the
terminating exceptions in their order, and the instruction where there is none (spec/60_exceptions.md R400, R410 to
R443, R460 to R463; spec/70_reset_and_hazards.md R480 to R483).
-/
namespace Sys2Proof.Machine

open Sys2Proof

/-! ### Reset (R480 to R483, spec/10_state.md R85) -/

theorem step_of_reset {s : State} (h : s.req.reset = true) : step s = .next s.resetInput := if_pos h

/-- MCFG0 after reset: SPID as far as the product has it, over the fixed halfword (R68). -/
theorem SysRegs.reset_mcfg0 (p : Product) :
    (SysRegs.reset p).mcfg0 = ((p.spidReset.setWidth 32 % (2#32 ^ (p.spidWidth.val + 1))) <<< 16) + 4 := by
  have hmask : ∀ w : Fin 8, (0xFF#8 >>> (7 - w.val)).toNat = 2 ^ (w.val + 1) - 1 := by decide
  have hpow : ∀ w : Fin 8, (2#32 ^ (w.val + 1)).toNat = 2 ^ (w.val + 1) := by decide
  have hlow : p.spidReset.toNat % 2 ^ (p.spidWidth.val + 1) < 256 :=
    (Nat.mod_le _ _).trans_lt p.spidReset.isLt
  apply BitVec.eq_of_toNat_eq
  simp only [SysRegs.reset, toNat_append_eq, BitVec.toNat_and, BitVec.toNat_add, BitVec.toNat_shiftLeft,
    BitVec.toNat_umod, BitVec.toNat_setWidth, hmask, hpow, Nat.and_two_pow_sub_one_eq_mod, Nat.shiftLeft_eq]
  have hspid : p.spidReset.toNat % 2 ^ 32 = p.spidReset.toNat := Nat.mod_eq_of_lt (by omega)
  have h0 : (0#8).toNat = 0 := rfl
  have hhalf : (4#16).toNat = 4 := rfl
  have hword : (4 : Word).toNat = 4 := rfl
  rw [hspid, h0, hhalf, hword]
  omega

/-- Every protection area is disabled after reset (R81). -/
theorem Area.reset_disabled (p : Product) : (Area.reset p).mpat.getLsbD 7 = false := by
  have hs : ∀ b : BitVec 3, (0#26 ++ b ++ 0#3 : BitVec 32).getLsbD 7 = false := by decide
  unfold Area.reset
  dsimp only
  split
  · exact hs p.mpatSReset
  · rfl

/-- Settles O6: the step is `State.resetInput`, whose fields are the reset values. -/
theorem resetInputResets : Obligations.ResetInputResets := by
  intro s hreset
  refine ⟨s.resetInput, step_of_reset hreset, rfl, ?psw, rfl, rfl, rfl, rfl, rfl, rfl, rfl, rfl, rfl, rfl, ?mcfg0,
    fun n => ?areas, rfl, rfl, rfl, rfl, fun _ => rfl⟩
  case psw =>
    change Psw.reset.toWord = 0x00000020
    decide
  case mcfg0 => exact SysRegs.reset_mcfg0 s.product
  case areas =>
    have harea : s.resetInput.area n = Area.reset s.product :=
      Vector.getElem_replicate (a := Area.reset s.product) n.isLt
    rw [harea, Area.reset_disabled]

/-! ### The instruction at the program counter (R400) -/

/-- Bytes that may be fetched and that `decode` takes for an instruction: the fetch takes them for the same, and changes
nothing. -/
theorem State.fetch_of_decode_ok {s : State} {n : Nat} {i : Instr} {rest : List Byte} (h : Fetchable s n)
    (hdecode : decode (s.codeBytes n) = .ok (i, rest)) : s.fetch = .instr i s := by
  have hheld : decode (s.codeBytes n) ≠ .error .truncated := by simp [hdecode]
  have hn : s.instrLengthAt ≤ n := (State.instrLength_codeBytes hheld).2.1
  have hstate : s.fetchHalfs.state = s := by rw [State.fetchHalfs_of_fetchable h hn]
  rw [State.decode_codeBytes h hheld] at hdecode
  cases hd : s.fetchHalfs.decoded with
  | error e => simp [hd, Except.map] at hdecode
  | ok j =>
    rw [hd] at hdecode
    obtain ⟨rfl, -⟩ := Prod.mk.inj (Except.ok.inj hdecode)
    rw [FetchedHalfs.decoded] at hd
    rw [State.fetch_of_fetchable h hn, decodeFetched, hd, hstate]

/-- Settles O7: the step fetches, the fetch decodes what `decode` decodes, and the state after it is the same. -/
theorem stepRunsDecodedInstruction : Obligations.StepRunsDecodedInstruction := by
  intro s n i rest hs hf hdecode
  rw [step_of_runsNext hs, runInstruction, State.fetch_of_decode_ok hf hdecode]

/-! ### The release of HALT and SNOOZE (R460 to R463) -/

/-- A step without reset of a core that goes on is the step of that core running. -/
theorem step_of_wake {s : State} (hreset : s.req.reset = false) (hwake : s.wake = some { s with run := .running }) :
    step s = step { s with run := .running } := by
  have hrunning : ({ s with run := .running } : State).wake = some { s with run := .running } := rfl
  simp only [step, hreset, hwake, hrunning, Bool.false_eq_true, if_false]

/-- A step without reset of a core that does not go on. -/
theorem step_of_wake_none {s : State} (hreset : s.req.reset = false) (hwake : s.wake = none) :
    step s = .next s.idle := by
  simp [step, hreset, hwake]

/-- A core at which a request stands goes on, in whatever run state it is (R461). -/
theorem State.wake_of_requestStands {s : State} (h : RequestStands s) : s.wake = some { s with run := .running } := by
  have hrelease := s.releaseRequest_iff.2 h
  unfold State.wake
  cases hrun : s.run with
  | running => simp [← hrun]
  | halted => simp [hrelease]
  | snoozing n => simp [hrelease]

theorem step_of_requestStands {s : State} (hreset : s.req.reset = false) (h : RequestStands s) :
    step s = step { s with run := .running } :=
  step_of_wake hreset (State.wake_of_requestStands h)

theorem State.releaseRequest_eq_false {s : State} (h : ¬ RequestStands s) : s.releaseRequest = false :=
  Bool.eq_false_iff.2 (mt s.releaseRequest_iff.1 h)

/-- Settles O13: the release consults exactly the requests that stand. -/
theorem haltRelease : Obligations.HaltRelease := by
  refine fun s hrun => ⟨fun hreset => step_of_requestStands hreset, fun hreset hnone => ?idle,
    fun hreset => ⟨_, step_of_reset hreset, rfl⟩⟩
  have hwake : s.wake = none := by simp [State.wake, hrun, State.releaseRequest_eq_false hnone]
  rw [step_of_wake_none hreset hwake, State.idle, hrun]

/-- Settles O14: as HALT, but that the end of the period releases too. -/
theorem snoozeRelease : Obligations.SnoozeRelease := by
  refine fun s n hreset hrun => ⟨?release, fun k hk hnone => ?period⟩
  case release =>
    rintro (rfl | hstands)
    · exact step_of_wake hreset (by simp [State.wake, hrun])
    · exact step_of_requestStands hreset hstands
  case period =>
    subst hk
    have hwake : s.wake = none := by simp [State.wake, hrun, State.releaseRequest_eq_false hnone]
    rw [step_of_wake_none hreset hwake, State.idle, hrun]

/-! ### FENMI, SYSERR, FEINT (R410, R415, R431) -/

/-- A terminating exception that a request at the running core calls for is the step. -/
theorem step_of_acknowledge {s : State} {r : Result} (hreset : s.req.reset = false) (h : RequestStands s)
    (hack : ({ s with run := .running } : State).acknowledge = some r) : step s = r := by
  have hwake := State.wake_of_requestStands h
  simp [step, hreset, hwake, hack]

theorem State.syserrRequest_eq_none {s : State} (h : ∀ c, ¬ SyserrStands s c) : s.syserrRequest = none :=
  Option.eq_none_iff_forall_not_mem.2 fun c hc => h c (State.syserrRequest_eq_some.1 hc)

theorem State.acknowledge_of_fenmi {s : State} (h : s.req.fenmi = true) :
    s.acknowledge = some (.next (State.takeException { s with req := { s.req with fenmi := false } } .fenmi s.pc)) :=
  if_pos h

theorem State.acknowledge_of_syserr {s : State} {c : BitVec 4} (hfenmi : s.req.fenmi = false) (h : SyserrStands s c) :
    s.acknowledge =
      some (.next (State.takeException { s with req := { s.req with syserr := none } } (.syserr c) s.pc)) := by
  simp [State.acknowledge, hfenmi, State.syserrRequest_eq_some.2 h]

theorem State.acknowledge_of_feint {s : State} (hfenmi : s.req.fenmi = false) (hsyserr : ∀ c, ¬ SyserrStands s c)
    (hfeint : s.req.feint = true) (hnp : s.psw.np = false) :
    s.acknowledge = some (.next (State.takeException { s with req := { s.req with feint := false } } .feint s.pc)) := by
  simp [State.acknowledge, hfenmi, State.syserrRequest_eq_none hsyserr, hfeint, hnp]

/-- Settles O10: each request is acknowledged where those before it in R415 do not stand. -/
theorem feLevelRequestsAcknowledged : Obligations.FeLevelRequestsAcknowledged := by
  refine fun s hreset => ⟨fun hfenmi => ?fenmi, fun hfenmi c hc => ?syserr, fun hfenmi hsyserr hfeint hnp => ?feint⟩
  case fenmi =>
    refine ⟨_, step_of_acknowledge hreset (.inl hfenmi) (State.acknowledge_of_fenmi hfenmi), ?_, rfl⟩
    exact State.takeException_acknowledged_of_ebv (x := .fenmi) s.pc (fun _ _ => nofun) rfl
  case syserr =>
    have hack := State.takeException_acknowledged { s with run := .running, req := { s.req with syserr := none } }
      (.syserr c) s.pc (fun _ _ => nofun)
    have hclears : (Exception.syserr c).clearsEbv = true := rfl
    rw [hclears, Bool.not_true, Bool.and_false] at hack
    exact ⟨_, step_of_acknowledge hreset (.inr (.inr (.inl ⟨c, hc⟩))) (State.acknowledge_of_syserr hfenmi hc), hack,
      rfl⟩
  case feint =>
    refine ⟨_, step_of_acknowledge hreset (.inr (.inl hfeint))
      (State.acknowledge_of_feint hfenmi hsyserr hfeint hnp), ?_, rfl⟩
    exact State.takeException_acknowledged_of_ebv (x := .feint) s.pc (fun _ _ => nofun) rfl

/-! ### Which EIINT request is next (R431, R433) -/

/-- `r` goes before `q` in the order of R433 and decision D32. -/
theorem EiintRequest.before_iff {r q : EiintRequest} :
    r.before q = true ↔ r.priority < q.priority ∨ (r.priority = q.priority ∧ r.channel < q.channel) := by
  simp [EiintRequest.before]

theorem EiintRequest.not_before_of_before {r q : EiintRequest} (h : r.before q = true) : q.before r = false := by
  rw [← Bool.not_eq_true, EiintRequest.before_iff]
  rw [EiintRequest.before_iff] at h
  bv_omega

theorem firstRequest_mem {l : List EiintRequest} {r : EiintRequest} (h : firstRequest l = some r) : r ∈ l := by
  induction l generalizing r with
  | nil => cases h
  | cons a rest ih =>
    rw [firstRequest] at h
    split at h
    case h_1 q hq =>
      split at h <;> obtain rfl := Option.some.inj h
      · exact List.mem_cons_of_mem a (ih hq)
      · exact List.mem_cons_self
    case h_2 =>
      obtain rfl := Option.some.inj h
      exact List.mem_cons_self

/-- A request that goes before every other one of a list is its first. -/
theorem firstRequest_eq_some {l : List EiintRequest} {r : EiintRequest} (hr : r ∈ l)
    (hfirst : ∀ q ∈ l, q = r ∨ r.before q = true) : firstRequest l = some r := by
  induction l with
  | nil => cases hr
  | cons a rest ih =>
    have hrest : ∀ q ∈ rest, q = r ∨ r.before q = true := fun q hq => hfirst q (List.mem_cons_of_mem a hq)
    rw [firstRequest]
    by_cases hmem : r ∈ rest
    · rw [ih hmem hrest]
      obtain rfl | hbefore := hfirst a List.mem_cons_self
      · simp
      · simp [hbefore]
    · obtain rfl : r = a := (List.mem_cons.1 hr).resolve_right hmem
      cases hq : firstRequest rest with
      | none => rfl
      | some q =>
        have hqmem := firstRequest_mem hq
        obtain rfl | hbefore := hrest q hqmem
        · exact absurd hqmem hmem
        · simp [EiintRequest.not_before_of_before hbefore]

theorem State.eiintMasked_eq_false_iff {s : State} {p : BitVec 3} : s.eiintMasked p = false ↔ Unmasked s p := by
  rw [← Bool.not_eq_true, State.eiintMasked_iff, Unmasked]
  simp

/-- The next request is the candidate (R433). -/
theorem State.eiintCandidate_of_nextEiint {s : State} {r : EiintRequest} (h : NextEiint s r) :
    s.eiintCandidate = some r := by
  obtain ⟨-, -, -, -, hid, hnp, hstands, hunmasked, hnext⟩ := h
  have henabled : (s.psw.id || s.psw.np) = false := by rw [hid, hnp]; rfl
  have hcandidate (q : EiintRequest) : q ∈ s.eiintRequests.filter (fun q => !s.eiintMasked q.priority) ↔
      EiintStands s q ∧ Unmasked s q.priority := by
    rw [List.mem_filter, State.mem_eiintRequests, Bool.not_eq_true', State.eiintMasked_eq_false_iff]
  rw [State.eiintCandidate, henabled, if_neg Bool.false_ne_true]
  refine firstRequest_eq_some ((hcandidate r).2 ⟨hstands, hunmasked⟩) fun q hq => ?_
  obtain ⟨hq, hqunmasked⟩ := (hcandidate q).1 hq
  exact (hnext q hq.1 hq hqunmasked).imp_right EiintRequest.before_iff.2

/-- The step that acknowledges the next EIINT request. -/
theorem step_of_nextEiint {s : State} {r : EiintRequest} (h : NextEiint s r) :
    step s = State.acknowledgeEiint { s with run := .running } r := by
  have hcandidate : ({ s with run := .running } : State).eiintCandidate = some r :=
    State.eiintCandidate_of_nextEiint (s := { s with run := .running }) h
  obtain ⟨hreset, hfenmi, hsyserr, hfeint, -, -, hstands, -⟩ := h
  have hnosyserr : ({ s with run := .running } : State).syserrRequest = none := State.syserrRequest_eq_none hsyserr
  refine step_of_acknowledge hreset (.inr (.inr (.inr ⟨r, hstands.1, hstands⟩))) ?_
  simp [State.acknowledge, hfenmi, hnosyserr, hfeint, hcandidate]

/-! ### The acknowledgement of EIINT (R420, R432, R440 to R443) -/

/-- The system registers that the entry to an EIINT handler leaves. -/
theorem State.enterEiint_sys (s : State) (r : EiintRequest) (handler : Word) :
    (s.enterEiint r handler).sys = { s.sys.inService r.priority with
      eipc := s.pc, eipsw := s.psw.toWord, eiic := 0x1000 + r.channel.setWidth 32 } := by
  have hbit : ∀ p : BitVec 3, ((1 <<< p.toNat : Nat) : Word) = 1#32 <<< p.toNat := by decide
  unfold State.enterEiint SysRegs.inService
  rw [← hbit]
  dsimp only
  split <;> rfl

/-- The entry to an EIINT handler: the row of Table 4-1, ISPR, and the request removed. -/
theorem State.enterEiint_acknowledged (s : State) (r : EiintRequest) {handler target : Word}
    (htarget : handler.even = target) : AcknowledgedEiint s (s.enterEiint r handler) r target := by
  have hremove : (fun q : EiintRequest => q != r) = fun q => decide (q ≠ r) := by
    funext q
    by_cases hq : q = r <;> simp [hq]
  refine ⟨⟨s.enterEiint_sys r handler, ?psw, htarget, rfl, fun _ => rfl, fun _ => rfl, rfl, rfl, rfl⟩, ?req⟩
  case psw => rfl
  case req =>
    rw [← hremove]
    rfl

/-- The handler of the direct vector method: the base plus an offset by the priority, or 100H where RINT of the base
is 1 (R440). -/
theorem State.handlerAddress_eiint (s : State) (c : BitVec 9) (p : BitVec 3) :
    s.handlerAddress (.eiint c p) = (s.baseRegister s.psw.ebv &&& 0xFFFFFE00#32) +
      (if (s.baseRegister s.psw.ebv).getLsbD 0 then 0x100 else 0x100 + 0x10 * p.setWidth 32) := by
  simp only [State.handlerAddress, Exception.clearsEbv, Bool.not_false, Bool.and_true, base_eq]
  rfl

theorem State.handlerAddress_eiint_even (s : State) (c : BitVec 9) (p : BitVec 3) :
    (s.handlerAddress (.eiint c p)).even = s.handlerAddress (.eiint c p) := by
  have hoffset : ∀ q : BitVec 3, (0x100#32 + 0x10#32 * q.setWidth 32).getLsbD 0 = false := by decide
  have hbase : (0xFFFFFE00#32).getLsbD 0 = false := by decide
  refine Word.even_eq ?_
  rw [State.handlerAddress_eiint, Word.getLsbD_add_zero, BitVec.getLsbD_and, hbase, Bool.and_false, Bool.false_xor]
  split
  · rfl
  · exact hoffset p

/-- A request whose handler is not read from the table is acknowledged at its vector. -/
theorem State.acknowledgeEiint_of_vector {s : State} {r : EiintRequest} (h : s.usesTable r = false) :
    ∃ t, s.acknowledgeEiint r = .next t ∧
      AcknowledgedEiint s t r ((s.baseRegister s.psw.ebv &&& 0xFFFFFE00#32) +
        (if (s.baseRegister s.psw.ebv).getLsbD 0 then 0x100 else 0x100 + 0x10 * r.priority.setWidth 32)) := by
  rw [State.acknowledgeEiint, if_neg (Bool.eq_false_iff.1 h), ← State.handlerAddress_eiint s r.channel]
  exact ⟨_, rfl, s.enterEiint_acknowledged r (s.handlerAddress_eiint_even _ _)⟩

/-- A request whose entry of the table may be read is acknowledged at the word there (R442). -/
theorem State.acknowledgeEiint_of_canRead {s : State} {r : EiintRequest} (h : s.usesTable r = true)
    (hread : CanRead s false (s.tableEntry r) 4) :
    ∃ t, s.acknowledgeEiint r = .next t ∧ AcknowledgedEiint s t r (s.wordAt (s.tableEntry r)).even := by
  rw [State.acknowledgeEiint, if_pos h, State.memRead_of_canRead hread, Access.andThen, low_readLE s _ 4 le_rfl]
  exact ⟨_, rfl, (s.markLoaded _ 4).enterEiint_acknowledged r rfl⟩

/-- A request whose entry of the table may not be read: MDP in its place (R118, R443, decision D33). -/
theorem State.acknowledgeEiint_of_refused {s : State} {r : EiintRequest} (h : s.usesTable r = true)
    (hmae : s.maeApplies (s.tableEntry r) 4 = false) (haligned : misaligned (s.tableEntry r) 4 = false)
    (hrefused : s.mpuAllowsAll false .read (s.tableEntry r) 4 = false) :
    ∃ t, s.acknowledgeEiint r = .next t ∧
      Acknowledged s t (feEntry 0x00080091) { s.sys with mea := s.tableEntry r, mei := meiWord 0 2 true 21 false } s.pc
        (s.vector s.psw.ebv 0x090) ∧
      t.req = s.req := by
  have hcode : (Exception.mdp (mdpDetail interruptTag false false true false)).code = 0x00080091 := by decide
  have hcheck := State.checkAccess_mdp (t := interruptTag) (um := false) (rd := true) (wr := false) hmae
    (by simp [hrefused])
  have hack := s.raiseMdp_acknowledged interruptTag false (s.tableEntry r) 4 true false
  simp only [hrefused, Bool.not_false, Bool.and_true, Bool.false_and] at hcheck
  rw [haligned, hcode] at hack
  rw [State.acknowledgeEiint, if_pos h, State.memRead_of_check hcheck]
  exact ⟨_, rfl, hack, rfl⟩

/-- Settles O11: the next request is the candidate, and its handler is not read from the table. -/
theorem eiintDirectVector : Obligations.EiintDirectVector := by
  intro s r hnext b hdirect
  have hbase : State.baseRegister { s with run := .running } s.psw.ebv = b := rfl
  have hvector : State.usesTable { s with run := .running } r = false := by
    rw [State.usesTable, hbase]
    obtain hchannel | hrint := hdirect
    · simp [hchannel]
    · rw [hrint, Bool.not_true, Bool.and_false]
  rw [step_of_nextEiint hnext]
  exact State.acknowledgeEiint_of_vector hvector

/-- Bit 0 of RBASE is RINT (R62). -/
theorem Product.getLsbD_rbaseWord_zero (p : Product) : (Product.rbaseWord p).getLsbD 0 = p.rint :=
  BitVec.getLsbD_append.trans (by simp)

/-- Settles O12: the next request is the candidate, and its handler is read from the table, where the read may be
made. -/
theorem eiintTableReference : Obligations.EiintTableReference := by
  intro s r hnext hchannel hrint a
  have hbase : (State.baseRegister { s with run := .running } s.psw.ebv).getLsbD 0 = false := by
    rw [← hrint, State.baseRegister]
    split
    · rfl
    · exact Product.getLsbD_rbaseWord_zero s.product
  have htable : State.usesTable { s with run := .running } r = true := by
    rw [State.usesTable, hbase]
    simp [hchannel]
  rw [step_of_nextEiint hnext]
  exact ⟨State.acknowledgeEiint_of_canRead htable, State.acknowledgeEiint_of_refused htable⟩

end Sys2Proof.Machine
end

section
/-!
SETTLES O22. An instruction whose one data access passes its checks and reaches a device stops there (decision D11).
-/
namespace Sys2Proof.Machine

open Sys2Proof

/-- `i` makes the data access `x` before anything else, and goes on with what it gives. -/
inductive StartsWithAccess (i : Instr) (s : State) : DataAccess → Prop
  | read {tag : AccessTag} {um : Bool} {a mei : Word} {n : Nat} {k : Dword → State → Result}
      (hexec : exec i s = (s.memRead tag um a n).andThen k) : StartsWithAccess i s ⟨a, n, true, false, um, mei⟩
  | write {tag : AccessTag} {a mei : Word} {n : Nat} {v : Dword} {k : Unit → State → Result}
      (hexec : exec i s = (s.memWrite tag a n v).andThen k) :
      StartsWithAccess i s ⟨a, n, false, true, s.psw.um, mei⟩
  | modify {tag : AccessTag} {a mei : Word} {n : Nat} {f : Dword → Dword} {k : Dword → State → Result}
      (hexec : exec i s = (s.memModify tag a n f).andThen k) :
      StartsWithAccess i s ⟨a, n, true, true, s.psw.um, mei⟩

/-- The instructions of `State.dataAccess` one by one; LD.DW and ST.DW where reg3 is even (R178). -/
theorem startsWithAccess_of_dataAccess {s : State} {i : Instr} {x : DataAccess} (h : s.dataAccess i = some x) :
    StartsWithAccess i s x := by
  cases i with
  | ldB16 | ldB23 | ldBu16 | ldBu23 | ldH16 | ldH23 | ldHu16 | ldHu23 | ldW16 | ldW23 | sldB | sldBu | sldH | sldHu
  | sldW | ldlW | tst1 | tst1Reg | switch | callt =>
    obtain rfl := Option.some.inj h
    exact .read rfl
  | stB16 | stB23 | stH16 | stH23 | stW16 | stW23 | sstB | sstH | sstW | stcW =>
    obtain rfl := Option.some.inj h
    exact .write rfl
  | caxi | set1 | clr1 | not1 | set1Reg | clr1Reg | not1Reg =>
    obtain rfl := Option.some.inj h
    exact .modify rfl
  | ldDw disp reg1 reg3 =>
    obtain ⟨heven, h⟩ := Option.ite_none_left_eq_some.1 h
    obtain rfl := Option.some.inj h
    exact .read (if_neg heven)
  | stDw disp reg1 reg3 =>
    obtain ⟨heven, h⟩ := Option.ite_none_left_eq_some.1 h
    obtain rfl := Option.some.inj h
    exact .write (if_neg heven)
  | syscall v =>
    obtain rfl := Option.some.inj h
    rw [← State.syscallEntry_eq]
    exact .read rfl
  | _ => cases h

section

variable {s : State} {a : Word} {n : Nat}

theorem State.accessRead_of_device (h : s.deviceAny a n = true) : s.accessRead a n = .stopped .deviceAccess := by
  have hplain : ¬ s.plainAll a n = true := fun hp => by simp [State.deviceAny_of_plainAll hp] at h
  rw [State.accessRead, if_neg hplain, if_pos h]

theorem State.accessWrite_of_device (h : s.deviceAny a n = true) (v : Dword) :
    s.accessWrite a n v = .stopped .deviceAccess := by
  have hplain : ¬ s.plainAll a n = true := fun hp => by simp [State.deviceAny_of_plainAll hp] at h
  rw [State.accessWrite, if_neg hplain, if_pos h]

end

/-- Settles O22: past its checks the access stops, a read and write back at its read. -/
theorem deviceAccessStops : Obligations.DeviceAccessStops := by
  intro s i x hx hmae hread hwrite hdevice
  have hcheck (tag : AccessTag) : s.checkAccess tag x.um x.reads x.writes x.addr x.size = none :=
    State.checkAccess_none.2 ⟨hmae, hread, hwrite⟩
  cases startsWithAccess_of_dataAccess hx with
  | read hexec => rw [hexec, State.memRead, hcheck, State.accessRead_of_device hdevice]; rfl
  | write hexec => rw [hexec, State.memWrite, hcheck, State.accessWrite_of_device hdevice]; rfl
  | modify hexec => rw [hexec, State.memModify, hcheck, State.accessRead_of_device hdevice]; rfl

end Sys2Proof.Machine
end

section
/-!
SETTLES O49 and O60. What user mode may do: the supervisor-level instructions raise PIE, and every instruction either
stays in user mode and leaves the supervisor's state, or takes an exception (spec/60_exceptions.md R402, R420, R470;
spec/10_state.md R33, R34, R45).
-/
namespace Sys2Proof.Machine

open Sys2Proof

/-! ### The supervisor-level instructions (R470) -/

/-- An instruction that raises PIE. -/
theorem raises_of_pie {s : State} {i : Instr} (hexec : exec i s = .next (s.raise .pie)) : Raises i s 0xA0 0x0A0 :=
  ⟨_, hexec, s.raise_acknowledged (x := .pie) s.sys s.freeCtr rfl rfl rfl rfl, rfl⟩

theorem State.privileged_of_user {s : State} (hum : s.psw.um = true) (k : State → Result) :
    s.privileged k = .next (s.raise .pie) :=
  if_pos hum

/-- DI and EI in user mode without MCTL.UIC. -/
theorem State.setId_of_not_permitted {s : State} (hum : s.psw.um = true) (huic : s.sys.mctl.getLsbD 0 = false)
    (id : Bool) : s.setId id = .next (s.raise .pie) := by
  rw [State.setId, if_pos (by rw [hum, huic]; rfl)]

/-- The registers with access permission UM have four numbers (R31, R33). -/
theorem mem_of_userAccess {regID selID : BitVec 5} {r : SysReg} (hr : sysRegOf regID selID = some r)
    (huser : r.userAccess = true) : (regID, selID) ∈ [((5, 0) : BitVec 5 × BitVec 5), (16, 0), (17, 0), (20, 0)] := by
  have harea {g : BitVec 1} (h : areaRegOf g regID = some r) : r.userAccess = false := by
    unfold areaRegOf at h
    dsimp only at h
    split at h <;> cases h <;> rfl
  unfold sysRegOf at hr
  split at hr
  case h_1 => split at hr <;> cases hr <;> simp [SysReg.userAccess] at huser ⊢
  case h_2 | h_3 | h_4 => split at hr <;> cases hr <;> cases huser
  case h_5 | h_6 =>
    rw [harea hr] at huser
    cases huser
  case h_7 => cases hr

/-- LDSR and STSR of every other number need supervisor mode, whether the product has the register or not (R34, R37). -/
theorem State.needsSupervisor_of_not_mem (s : State) {regID selID : BitVec 5}
    (h : (regID, selID) ∉ [((5, 0) : BitVec 5 × BitVec 5), (16, 0), (17, 0), (20, 0)]) :
    needsSupervisor (s.sysRegAt regID selID) = true := by
  cases hr : s.sysRegAt regID selID with
  | none => rfl
  | some r =>
    have huser : r.userAccess = false :=
      Bool.eq_false_iff.2 fun huser => h (mem_of_userAccess (State.sysRegAt_eq_some.1 hr).1 huser)
    rw [needsSupervisor, huser]
    rfl

theorem execLdsr_of_needsSupervisor {s : State} {regID selID : BitVec 5} (hum : s.psw.um = true)
    (h : needsSupervisor (s.sysRegAt regID selID) = true) (reg2 : Reg) :
    execLdsr reg2 regID selID s = .next (s.raise .pie) := by
  simp [execLdsr, hum, h]

theorem execStsr_of_needsSupervisor {s : State} {regID selID : BitVec 5} (hum : s.psw.um = true)
    (h : needsSupervisor (s.sysRegAt regID selID) = true) (reg2 : Reg) :
    execStsr regID reg2 selID s = .next (s.raise .pie) := by
  simp [execStsr, hum, h]

/-- Settles O49: the privilege check of each comes before everything else it does. -/
theorem privilegedRaiseInUserMode : Obligations.PrivilegedRaiseInUserMode := fun s hum =>
  ⟨raises_of_pie (s.privileged_of_user hum fun s => .next s.returnEi),
    raises_of_pie (s.privileged_of_user hum fun s => .next s.returnFe),
    raises_of_pie (s.privileged_of_user hum fun s => State.done { s with run := .halted } 4),
    fun huic => ⟨raises_of_pie (s.setId_of_not_permitted hum huic false),
      raises_of_pie (s.setId_of_not_permitted hum huic true)⟩,
    fun reg2 _ _ hnumber =>
      have hsv := s.needsSupervisor_of_not_mem hnumber
      ⟨raises_of_pie (execLdsr_of_needsSupervisor hum hsv reg2),
        raises_of_pie (execStsr_of_needsSupervisor hum hsv reg2)⟩⟩
/-! ### The supervisor's part of the state -/

/-- The part of the state that most instructions leave alone in every mode: the protection areas, the system registers,
and PSW but for its flags. -/
structure Privilege where
  areas : Vector Area 16
  sys : SysRegs
  um : Bool
  ebv : Bool
  debug : BitVec 3
  np : Bool
  ep : Bool
  id : Bool

def State.privilege (s : State) : Privilege :=
  ⟨s.areas, s.sys, s.psw.um, s.psw.ebv, s.psw.debug, s.psw.np, s.psw.ep, s.psw.id⟩

@[simp] theorem State.setReg_privilege (s : State) (r : Reg) (v : Word) : (s.setReg r v).privilege = s.privilege := by
  simp [State.privilege]

@[simp] theorem State.setPc_privilege (s : State) (v : Word) : (s.setPc v).privilege = s.privilege := rfl

@[simp] theorem State.advance_privilege (s : State) (n : Nat) : (s.advance n).privilege = s.privilege := rfl

@[simp] theorem State.useFree_privilege (s : State) (n : Nat) : (s.useFree n).privilege = s.privilege := rfl

@[simp] theorem State.setFlags_privilege (s : State) (cy ov sg z : Bool) :
    (s.setFlags cy ov sg z).privilege = s.privilege := rfl

@[simp] theorem State.setOvSZ_privilege (s : State) (ov sg z : Bool) :
    (s.setOvSZ ov sg z).privilege = s.privilege := rfl

@[simp] theorem State.setProduct_privilege (s : State) (reg2 reg3 : Reg) (p : Dword) :
    (s.setProduct reg2 reg3 p).privilege = s.privilege := by
  simp [State.setProduct]

@[simp] theorem State.setPair_privilege (s : State) (r : BitVec 4) (v : Dword) :
    (s.setPair r v).privilege = s.privilege := by
  simp [State.setPair]

@[simp] theorem State.setArithFlags_privilege (s : State) (x : Arith) :
    (s.setArithFlags x).privilege = s.privilege := rfl

@[simp] theorem State.setLogicFlags_privilege (s : State) (v : Word) :
    (s.setLogicFlags v).privilege = s.privilege := rfl

@[simp] theorem State.setArith_privilege (s : State) (r : Reg) (x : Arith) :
    (s.setArith r x).privilege = s.privilege := s.setReg_privilege r _

@[simp] theorem State.setSaturated_privilege (s : State) (r : Reg) (x : Arith) :
    (s.setSaturated r x).privilege = s.privilege := s.setReg_privilege r _

@[simp] theorem State.setLogic_privilege (s : State) (r : Reg) (v : Word) :
    (s.setLogic r v).privilege = s.privilege := s.setReg_privilege r v

@[simp] theorem State.setShifted_privilege (s : State) (r : Reg) (cy : Bool) (v : Word) :
    (s.setShifted r cy v).privilege = s.privilege := s.setReg_privilege r v

@[simp] theorem State.shiftLeft_privilege (s : State) (reg2 r : Reg) (n : Nat) :
    (s.shiftLeft reg2 r n).privilege = s.privilege := s.setShifted_privilege r _ _

@[simp] theorem State.shiftRight_privilege (s : State) (reg2 r : Reg) (n : Nat) :
    (s.shiftRight reg2 r n).privilege = s.privilege := s.setShifted_privilege r _ _

@[simp] theorem State.shiftArith_privilege (s : State) (reg2 r : Reg) (n : Nat) :
    (s.shiftArith reg2 r n).privilege = s.privilege := s.setShifted_privilege r _ _

@[simp] theorem State.rotate_privilege (s : State) (reg2 r : Reg) (n : Nat) :
    (s.rotate reg2 r n).privilege = s.privilege := s.setShifted_privilege r _ _

@[simp] theorem State.setSwapped_privilege (s : State) (r : Reg) (v : Word) (cy z : Bool) :
    (s.setSwapped r v cy z).privilege = s.privilege := s.setReg_privilege r v

@[simp] theorem State.setSearch_privilege (s : State) (r : Reg) (k : Nat) :
    (s.setSearch r k).privilege = s.privilege := s.setReg_privilege r _

@[simp] theorem State.insertBits_privilege (s : State) (reg1 reg2 : Reg) (msb lsb : Nat) :
    (s.insertBits reg1 reg2 msb lsb).privilege = s.privilege := by
  unfold State.insertBits
  split <;> simp

@[simp] theorem State.setDivision_privilege (s : State) (reg2 reg3 : Reg) (d : Option Division) :
    (s.setDivision reg2 reg3 d).privilege = s.privilege := by
  unfold State.setDivision
  by_cases hr : reg2 = reg3
  · simp [hr]
  · cases d <;> simp [hr]

@[simp] theorem State.setQuotient_privilege (s : State) (reg2 : Reg) (d : Option Division) :
    (s.setQuotient reg2 d).privilege = s.privilege := by
  cases d <;> simp [State.setQuotient]

/-! ### Staying in user mode, or leaving it by an exception -/

/-- `t` is `s` after code in user mode that stays there: PSW but for its flags is as before, ID where MCTL.UIC does not
give it to user mode, and of the supervisor's part only the registers with access permission UM may differ. -/
structure State.Stays (s t : State) : Prop where
  areas : t.areas = s.areas
  um : t.psw.um = true
  ebv : t.psw.ebv = s.psw.ebv
  debug : t.psw.debug = s.psw.debug
  np : t.psw.np = s.psw.np
  ep : t.psw.ep = s.psw.ep
  id : t.psw.id = s.psw.id ∨ s.sys.mctl.getLsbD 0 = true
  sys : t.sys = { s.sys with ctpc := t.sys.ctpc, ctpsw := t.sys.ctpsw, ctbp := t.sys.ctbp }

/-- `t` is `s` after an exception that is no interrupt and no system error: of the supervisor's part only the
registers that exceptions save into may differ (R420). -/
structure State.Traps (s t : State) : Prop where
  areas : t.areas = s.areas
  um : t.psw.um = false
  ebv : t.psw.ebv = s.psw.ebv
  debug : t.psw.debug = s.psw.debug
  ep : t.psw.ep = true
  id : t.psw.id = true
  run : t.run = .running
  sys : t.sys = { s.sys with
    eipc := t.sys.eipc
    eipsw := t.sys.eipsw
    eiic := t.sys.eiic
    fepc := t.sys.fepc
    fepsw := t.sys.fepsw
    feic := t.sys.feic
    mea := t.sys.mea
    mei := t.sys.mei }

/-- A state that is answered as the next one is in user mode as before, or follows an exception. -/
inductive AnswersConfined (s : State) : Result → Prop
  | stays {t : State} (h : s.Stays t) : AnswersConfined s (.next t)
  | traps {t : State} (h : s.Traps t) : AnswersConfined s (.next t)
  | fault (r : Fault) : AnswersConfined s (.fault r)
  | refused (r : Refusal) : AnswersConfined s (.refused r)

/-- Whatever an access leaves: the supervisor's part as before, or an exception. -/
def Access.Confined {α : Type} (s : State) : Access α → Prop
  | .done _ t => t.privilege = s.privilege
  | .raised t => s.Traps t
  | .stopped _ => True

section

variable {s : State}

theorem State.stays_of_privilege {t : State} (hum : s.psw.um = true) (h : t.privilege = s.privilege) : s.Stays t := by
  simp only [State.privilege, Privilege.mk.injEq] at h
  obtain ⟨hareas, hsys, htum, hebv, hdebug, hnp, hep, hid⟩ := h
  exact ⟨hareas, htum.trans hum, hebv, hdebug, hnp, hep, .inl hid, by rw [hsys]⟩

/-- An exception in a state with the supervisor's part as before, but for MEA and MEI. -/
theorem State.traps_takeExceptionAt {t : State} {mea mei : Word}
    (h : t.privilege = { s.privilege with sys := { s.sys with mea := mea, mei := mei } }) {x : Exception}
    (hep : x.epAfter = true) (hebv : x.clearsEbv = false) (ret handler : Word) :
    s.Traps (t.takeExceptionAt x ret handler) := by
  simp only [State.privilege, Privilege.mk.injEq] at h
  obtain ⟨hareas, hsys, htum, htebv, hdebug, hnp, htep, hid⟩ := h
  refine ⟨hareas, rfl, ?ebv, hdebug, hep, rfl, rfl, ?sys⟩
  case ebv => simp [Psw.acknowledge, htebv, hebv]
  case sys =>
    unfold State.takeExceptionAt
    cases x.feLevel <;> simp [hsys]

/-- An exception that an instruction takes at its start. -/
theorem State.traps_takeException {x : Exception} (hep : x.epAfter = true) (hebv : x.clearsEbv = false) (ret : Word) :
    s.Traps (s.takeException x ret) :=
  State.traps_takeExceptionAt (mea := s.sys.mea) (mei := s.sys.mei) rfl hep hebv ret _

theorem State.traps_pie : s.Traps (s.raise .pie) := State.traps_takeException rfl rfl s.pc

/-- MAE and MDP write MEA and MEI before they are taken. -/
theorem State.traps_checkAccess {u x : State} {t : AccessTag} {um rd wr : Bool} {a : Word} {n : Nat}
    (hx : u.checkAccess t um rd wr a n = some x) (h : u.privilege = s.privilege) : s.Traps x := by
  have hsys : u.sys = s.sys := congrArg Privilege.sys h
  have hmemory : State.privilege { u with sys := { u.sys with mea := a, mei := t.mei } } =
      { s.privilege with sys := { s.sys with mea := a, mei := t.mei } } := by
    rw [← h, ← hsys]
    rfl
  obtain rfl | ⟨r, w, rfl⟩ := State.checkAccess_eq_some hx <;>
    exact State.traps_takeExceptionAt hmemory rfl rfl _ _

theorem Access.Confined.bind {α β : Type} {x : Access α} {f : α → State → Access β} (hx : x.Confined s)
    (hf : ∀ v t, t.privilege = s.privilege → (f v t).Confined s) : (x.bind f).Confined s := by
  cases x with
  | done v t => exact hf v t hx
  | raised t => exact hx
  | stopped r => trivial

theorem Access.Confined.andThen {α : Type} {x : Access α} {f : α → State → Result} (hx : x.Confined s)
    (hf : ∀ v t, t.privilege = s.privilege → AnswersConfined s (f v t)) : AnswersConfined s (x.andThen f) := by
  cases x with
  | done v t => exact hf v t hx
  | raised t => exact .traps hx
  | stopped r => exact .fault r

/-! ### Data accesses -/

theorem State.memRead_confined (t : AccessTag) (um : Bool) (a : Word) (n : Nat) :
    (s.memRead t um a n).Confined s := by
  obtain ⟨x, hx, h⟩ | h | ⟨v, st, fc, e, h⟩ := s.memRead_cases t um a n <;> rw [h]
  · exact State.traps_checkAccess hx rfl
  · trivial
  · rfl

theorem State.memWrite_confined (t : AccessTag) (a : Word) (n : Nat) (v : Dword) :
    (s.memWrite t a n v).Confined s := by
  obtain ⟨x, hx, h⟩ | h | ⟨m, st, e, h⟩ := s.memWrite_cases t a n v <;> rw [h]
  · exact State.traps_checkAccess hx rfl
  · trivial
  · rfl

theorem State.memModify_confined (t : AccessTag) (a : Word) (n : Nat) (f : Dword → Dword) :
    (s.memModify t a n f).Confined s := by
  obtain ⟨x, hx, h⟩ | h | ⟨v, m, st, fc, e, h⟩ := s.memModify_cases t a n f <;> rw [h]
  · exact State.traps_checkAccess hx rfl
  · trivial
  · rfl

/-- A block that is stopped midway has written memory alone before the exception (decision D31). -/
theorem State.storeBlock_confined (t : AccessTag) (top : Word) (rs : List Reg) :
    (s.storeBlock t top rs).Confined s := by
  obtain ⟨m, st, e, x, b, hx, h⟩ | h | ⟨m, st, e, h⟩ := s.storeBlock_cases t top rs <;> rw [h]
  · exact State.traps_checkAccess hx rfl
  · trivial
  · rfl

/-- A block that is stopped midway has loaded general registers alone before the exception (decision D31). -/
theorem State.loadBlock_confined (t : AccessTag) (bottom : Word) (rs : List Reg) :
    (s.loadBlock t bottom rs).Confined s := by
  obtain ⟨g, st, fc, e, x, b, hx, h⟩ | h | ⟨g, st, fc, e, h⟩ := s.loadBlock_cases t bottom rs <;> rw [h]
  · exact State.traps_checkAccess hx rfl
  · trivial
  · rfl

theorem State.prepareFrame_confined (imm5 : BitVec 5) (list12 : BitVec 12) :
    (s.prepareFrame imm5 list12).Confined s :=
  (s.storeBlock_confined _ _ _).bind fun _ t h => (t.setReg_privilege sp _).trans h

/-! ### Instructions -/

variable (hum : s.psw.um = true)

include hum

/-- An instruction that leaves the supervisor's part. -/
theorem answersConfined_of_privilege {t : State} (h : t.privilege = s.privilege) : AnswersConfined s (.next t) :=
  .stays (State.stays_of_privilege hum h)

/-- An instruction that leaves the supervisor's part after an access. -/
theorem Access.Confined.andThen_next {α : Type} {x : Access α} {f : α → State → State} (hx : x.Confined s)
    (hf : ∀ v t, (f v t).privilege = t.privilege) : AnswersConfined s (x.andThen fun v t => .next (f v t)) :=
  hx.andThen fun v t ht => answersConfined_of_privilege hum ((hf v t).trans ht)

theorem State.loadReg_confined (t : AccessTag) (a : Word) (n : Nat) (ext : Dword → Word) (r : Reg) (len : Nat) :
    AnswersConfined s (s.loadReg t a n ext r len) :=
  (s.memRead_confined t _ a n).andThen_next hum fun v t => t.setReg_privilege r (ext v)

theorem State.storeReg_confined (t : AccessTag) (a : Word) (n : Nat) (r : Reg) (len : Nat) :
    AnswersConfined s (s.storeReg t a n r len) :=
  (s.memWrite_confined t a n _).andThen_next hum fun _ _ => rfl

theorem State.changeBit_confined (a : Word) (b : BitVec 3) (f : Dword → Dword → Dword) :
    AnswersConfined s (s.changeBit a b f) :=
  (s.memModify_confined _ a 1 _).andThen_next hum fun _ _ => rfl

theorem State.testBit_confined (a : Word) (b : BitVec 3) : AnswersConfined s (s.testBit a b) :=
  (s.memRead_confined _ _ a 1).andThen_next hum fun _ _ => rfl

/-- PREPARE: what follows the frame writes ep at most. -/
theorem State.prepare_confined (imm5 : BitVec 5) (list12 : BitVec 12) (v : State → Word) (len : Nat) :
    AnswersConfined s ((s.prepareFrame imm5 list12).andThen fun _ t => (t.setReg ep (v t)).done len) :=
  (s.prepareFrame_confined imm5 list12).andThen_next hum fun _ t => t.setReg_privilege ep (v t)

theorem execLdDw_confined (disp : BitVec 22) (reg1 reg3 : Reg) : AnswersConfined s (execLdDw disp reg1 reg3 s) := by
  unfold execLdDw
  split
  · exact .refused _
  · exact (s.memRead_confined _ _ _ 8).andThen_next hum fun _ _ => by simp

theorem execStDw_confined (disp : BitVec 22) (reg1 reg3 : Reg) : AnswersConfined s (execStDw disp reg1 reg3 s) := by
  unfold execStDw
  split
  · exact .refused _
  · exact (s.memWrite_confined _ _ 8 _).andThen_next hum fun _ _ => rfl

theorem State.branch_confined {c : Prop} [Decidable c] (target : Word) (n : Nat) :
    AnswersConfined s (if c then s.jump target else s.done n) := by
  split <;> exact answersConfined_of_privilege hum rfl

theorem execLoop_confined (reg1 : Reg) (disp : BitVec 15) : AnswersConfined s (execLoop reg1 disp s) := by
  unfold execLoop
  generalize add32 (s.reg reg1) 0xFFFFFFFF false = x
  have h : (s.setArith reg1 x).privilege = s.privilege := s.setArith_privilege reg1 x
  dsimp only
  split
  · exact answersConfined_of_privilege hum ((State.advance_privilege _ 4).trans h)
  · exact answersConfined_of_privilege hum ((State.setPc_privilege _ _).trans h)

/-- CALLT saves into CTPC and CTPSW, which have access permission UM (R365). -/
theorem execCallt_confined (imm6 : BitVec 6) : AnswersConfined s (execCallt imm6 s) :=
  (s.memRead_confined _ _ _ 2).andThen fun _ t ht =>
    have h := State.stays_of_privilege hum ht
    have hsys : t.sys = s.sys := congrArg Privilege.sys ht
    .stays { h with sys := by rw [← hsys]; rfl }

/-- DI and EI change ID where MCTL.UIC is 1 (R369, R376). -/
theorem State.setId_confined (id : Bool) : AnswersConfined s (s.setId id) := by
  cases huic : s.sys.mctl.getLsbD 0 with
  | false =>
    rw [s.setId_of_not_permitted hum huic]
    exact .traps State.traps_pie
  | true =>
    rw [State.setId_of_permitted (.inr huic)]
    exact .stays { State.stays_of_privilege hum rfl with id := .inr huic }

theorem State.privileged_confined (k : State → Result) : AnswersConfined s (s.privileged k) := by
  rw [State.privileged_of_user hum]
  exact .traps State.traps_pie

/-- A write to a register with access permission UM (R33, R45). -/
theorem State.stays_writeSys {r : SysReg} (hr : r.userAccess = true) (v : Word) : s.Stays (s.writeSys r v) := by
  have h : s.Stays s := State.stays_of_privilege hum rfl
  cases r with
  | psw =>
    refine State.stays_of_privilege hum ?_
    simp only [State.writeSys, State.writePsw, hum, if_true]
    rfl
  | ctpc | ctpsw | ctbp => exact { h with sys := rfl }
  | _ => cases hr

theorem execLdsr_confined (reg2 : Reg) (regID selID : BitVec 5) : AnswersConfined s (execLdsr reg2 regID selID s) := by
  cases hsv : needsSupervisor (s.sysRegAt regID selID) with
  | true =>
    rw [execLdsr_of_needsSupervisor hum hsv]
    exact .traps State.traps_pie
  | false =>
    cases hr : s.sysRegAt regID selID with
    | none => rw [hr] at hsv; cases hsv
    | some r =>
      have huser : r.userAccess = true := by simpa [hr, needsSupervisor] using hsv
      have hexec := exec_ldsr_of_permitted reg2 (.inr huser) hr
      change execLdsr reg2 regID selID s = _ at hexec
      rw [hexec]
      exact .stays { State.stays_writeSys hum huser (s.reg reg2) with }

theorem execStsr_confined (regID : BitVec 5) (reg2 : Reg) (selID : BitVec 5) :
    AnswersConfined s (execStsr regID reg2 selID s) := by
  unfold execStsr
  dsimp only
  split
  · exact .traps State.traps_pie
  · cases s.sysRegAt regID selID <;> exact answersConfined_of_privilege hum (s.setReg_privilege reg2 _)

/-- Every instruction in user mode is confined. -/
theorem exec_confined (i : Instr) : AnswersConfined s (exec i s) := by
  cases i with
  -- loads and stores
  | ldB16 | ldB23 | ldBu16 | ldBu23 | ldH16 | ldH23 | ldHu16 | ldHu23 | ldW16 | ldW23 | sldB | sldBu | sldH | sldHu
  | sldW | ldlW => exact State.loadReg_confined hum _ _ _ _ _ _
  | stB16 | stB23 | stH16 | stH23 | stW16 | stW23 | sstB | sstH | sstW | stcW =>
    exact State.storeReg_confined hum _ _ _ _ _
  | ldDw => exact execLdDw_confined hum _ _ _
  | stDw => exact execStDw_confined hum _ _ _
  -- bits of memory
  | clr1 | clr1Reg | not1 | not1Reg | set1 | set1Reg => exact State.changeBit_confined hum _ _ _
  | tst1 | tst1Reg => exact State.testBit_confined hum _ _
  | caxi => exact (s.memModify_confined _ _ _ _).andThen_next hum fun _ _ => by simp
  -- tables and stack frames
  | callt => exact execCallt_confined hum _
  | switch => exact (s.memRead_confined _ _ _ 2).andThen_next hum fun _ _ => rfl
  | prepare => exact (s.prepareFrame_confined _ _).andThen_next hum fun _ _ => rfl
  | prepareSp => exact State.prepare_confined hum _ _ (fun t => t.reg sp) 4
  | prepareImmLo | prepareImmHi | prepareImm32 => exact State.prepare_confined hum _ _ (fun _ => _) _
  | dispose | disposeJmp | popsp => exact (s.loadBlock_confined _ _ _).andThen_next hum fun _ _ => by simp
  | pushsp => exact (s.storeBlock_confined _ _ _).andThen_next hum fun _ _ => by simp
  -- registers, flags, PC and the run state alone
  | mul | mulImm | mulh | mulhImm | mulhi | mulu | muluImm | mac | macu | addReg | addImm | addi | cmpReg | cmpImm
  | movReg | movImm5 | movImm32 | movea | movhi | sub | subr | adf | sbf | satadd | sataddImm | satadd3 | satsub
  | satsub3 | satsubi | satsubr | andReg | andi | notReg | orReg | ori | tst | xorReg | xori | binsHh | binsHl | binsLl
  | bsh | bsw | cmov | cmovImm | hsh | hsw | rotlImm | rotl | sar | sarImm | sar3 | sasf | setf | shl | shlImm | shl3
  | shr | shrImm | shr3 | sxb | sxh | zxb | zxh | sch0l | sch0r | sch1l | sch1r | div | divh2 | divh3 | divhu | divu
  | divq | divqu | jarl22 | jarl32 | jarlReg | jmpReg | jmp32 | jr22 | jr32 | nop | synce | syncm | syncp | cache
  | pref => exact answersConfined_of_privilege hum (by simp)
  | ctret | snooze | synci => exact answersConfined_of_privilege hum rfl
  | bcond9 | bcond17 => exact State.branch_confined hum _ _
  | loop reg1 disp => exact execLoop_confined hum reg1 disp
  -- exceptions
  | cll | rie | rieImm | fetrap | trap => exact .traps (State.traps_takeException rfl rfl _)
  | syscall =>
    exact (s.memRead_confined _ _ _ 4).andThen fun _ t ht =>
      .traps (State.traps_takeExceptionAt (mea := s.sys.mea) (mei := s.sys.mei) ht rfl rfl _ _)
  -- the supervisor's instructions
  | eiret => exact State.privileged_confined hum fun s => .next s.returnEi
  | feret => exact State.privileged_confined hum fun s => .next s.returnFe
  | halt => exact State.privileged_confined hum fun s => State.done { s with run := .halted } 4
  | di | ei => exact State.setId_confined hum _
  | ldsr => exact execLdsr_confined hum _ _ _
  | stsr => exact execStsr_confined hum _ _ _

end

/-- Settles O60: each instruction in user mode stays there or takes an exception, by what it is composed of. -/
theorem userModeIsConfined : Obligations.UserModeIsConfined := by
  intro i s t hum hexec
  have h := exec_confined hum i
  rw [hexec] at h
  cases h with
  | stays h => exact ⟨h.areas, h.ebv, h.debug, .inl ⟨h.um, h.np, h.ep, h.id, h.sys⟩⟩
  | traps h => exact ⟨h.areas, h.ebv, h.debug, .inr ⟨h.um, h.id, h.ep, h.run, h.sys⟩⟩

end Sys2Proof.Machine
end
